-- ==== Sys2Proof/Word.lean ====
section
/-! DEFINITION. The widths of the values the manual carries as bits (`00_scope.md`, section 4). -/

namespace Sys2Proof

/-- One 16-bit word of a transaction (section 9.1). -/
abbrev Word := BitVec 16

/-- One half of a header word: a kind code, a target or a status code (section 9.8). -/
abbrev Byte := BitVec 8

/-- The epoch counter E and every epoch tag: 0 to 65535, wrapping (section 4, *Epochs*). -/
abbrev Epoch := BitVec 16

/-- A sample: a signed 16-bit integer (section 4, *Samples*). -/
abbrev Sample := BitVec 16

/-- A coefficient: a signed 24-bit integer (section 4, *Coefficients*, and R41). -/
abbrev Coef := BitVec 24

/-- An absolute sample index, taken modulo 8388608 (section 4, *Absolute sample index*). -/
abbrev SampleIndex := BitVec 23

/-- A 16-bit event counter (section 4, *Event counters*). -/
abbrev Counter := BitVec 16

/-- A reference REF0, REF1 or REF2. -/
abbrev RefId := Fin 3

/-- A microphone lane L0 to L15. -/
abbrev LaneId := Fin 16

/-- A partition of the Coefficient Store (R41). -/
abbrev PartId := Fin 384

/-- A slot of the Checkpoint Store (R131). -/
abbrev SlotId := Fin 96

/-- The 128 samples of a frame, oldest first. -/
abbrev Frame := Vector Sample 128

/-- The 256 coefficients of a partition or of a checkpoint slot. -/
abbrev Partition := Vector Coef 256

/-- A set of references, bit `r` standing for REF `r` (R156). -/
abbrev RefSet := BitVec 3

end Sys2Proof
end

