-- ==== Sys2Proof/Config.lean ====
section
/-! DEFINITION. What the part fixes once and for all: the sizes of its stores and queues. The manual
leaves no value of the part open to an implementation, so there is no free value here. -/

namespace Sys2Proof.Config

/-- Frames an input queue or an output queue holds (R20). -/
def queueDepth : Nat := 4

/-- Checkpoint entries a lane's stack holds (R130). -/
def stackDepth : Nat := 4

/-- Lags the tracker keeps (R95). -/
def lagDepth : Nat := 4

/-- Partition updates of one epoch (R77). -/
def budget : Nat := 128

/-- Taps one coefficient transfer moves (R53). -/
def transferTaps : Nat := 128

/-- The longest chain, in taps, and so the largest true length (R52). -/
def maxTaps : Nat := 8192

/-- The longest payload a command may declare (R141). -/
def maxPayload : Nat := 260

/-- Notices one NOTICE READ returns (R161). -/
def noticeBatch : Nat := 16

end Sys2Proof.Config
end

