-- ==== Sys2Proof/Syntax.lean ====
section
/-! DEFINITION. The commands and events of the part: one constructor of `Instr` for each row of
`spec/opcode_table.json`. -/

namespace Sys2Proof

/-- The three message ports (section 2.2 of *About This Manual*). -/
inductive Port where
  | portR
  | portM
  | portS
  deriving DecidableEq, Repr

/-- The kinds of the kind table (section 9.4). -/
inductive Kind where
  | nop
  | declareRef
  | refFrame
  | refConfig
  | refStatus
  | historyRead
  | micFrame
  | fetch
  | setMode
  | bind
  | unbind
  | resize
  | resetLane
  | laneStatus
  | coeffRead
  | coeffWrite
  | storeStatus
  | laneConfig
  | engineStatus
  | talkConfig
  | talkStatus
  | trackerConfig
  | trackerClear
  | setDelay
  | trackerStatus
  | meterConfig
  | meterRead
  | rearm
  | saveCheckpoint
  | dropCheckpoints
  | guardConfig
  | guardStatus
  | noticeRead
  | noticeConfig
  | noticeArm
  | deviceReset
  deriving DecidableEq, Repr

/-- The words of a command after its kind code (R141): the target byte of header word 0, header
word 1, and the payload words received. A declared length above 260 takes no payload (R147). -/
structure Message where
  target   : Byte
  declared : Word
  payload  : List Word
  deriving DecidableEq, Repr

/-- A port, and the words that the master clocks in on it within one row (R140, log 6). -/
structure ClockedIn where
  port  : Port
  words : List Word
  deriving DecidableEq, Repr

/-- A port, and how many words the master clocks out of it within one row (R140, log 6). -/
structure ClockedOut where
  port  : Port
  count : Nat
  deriving DecidableEq, Repr

/-- A step of the part. A row that names a message kind carries the port that sends it and the
command's words. A row about one port, one lane or one reference carries which. TRANSACTION_START and
TRANSACTION_TRUNCATED carry the words that the master clocks in within them, and RESPONSE_SENT how many
words the master clocks out. -/
inductive Instr where
  | powerOn
  | resetNAssert
  | resetNRelease
  | epochAdvance
  | epochResolution (r : RefId)
  | frameExpiry (l : LaneId)
  | lastAcceptedEpochAgeOut (l : LaneId)
  | retryCountdownEnd (l : LaneId)
  | holdCountdownEnd (r : RefId)
  | lastChangeAgeOut (r : RefId)
  | onsetRecordAgeOut (r : RefId)
  | lastSaveEpochAgeOut (l : LaneId)
  | transactionTruncated (c : ClockedIn)
  | responseCut (p : Port)
  | unknownKind (p : Port) (code : Byte) (m : Message)
  | nop (p : Port) (m : Message)
  | declareRef (p : Port) (m : Message)
  | refFrame (p : Port) (m : Message)
  | refConfig (p : Port) (m : Message)
  | refStatus (p : Port) (m : Message)
  | historyRead (p : Port) (m : Message)
  | micFrame (p : Port) (m : Message)
  | fetch (p : Port) (m : Message)
  | setMode (p : Port) (m : Message)
  | bind (p : Port) (m : Message)
  | unbind (p : Port) (m : Message)
  | resize (p : Port) (m : Message)
  | resetLane (p : Port) (m : Message)
  | laneStatus (p : Port) (m : Message)
  | coeffRead (p : Port) (m : Message)
  | coeffWrite (p : Port) (m : Message)
  | storeStatus (p : Port) (m : Message)
  | laneConfig (p : Port) (m : Message)
  | engineStatus (p : Port) (m : Message)
  | talkConfig (p : Port) (m : Message)
  | talkStatus (p : Port) (m : Message)
  | trackerConfig (p : Port) (m : Message)
  | trackerClear (p : Port) (m : Message)
  | setDelay (p : Port) (m : Message)
  | trackerStatus (p : Port) (m : Message)
  | meterConfig (p : Port) (m : Message)
  | meterRead (p : Port) (m : Message)
  | rearm (p : Port) (m : Message)
  | saveCheckpoint (p : Port) (m : Message)
  | dropCheckpoints (p : Port) (m : Message)
  | guardConfig (p : Port) (m : Message)
  | guardStatus (p : Port) (m : Message)
  | noticeRead (p : Port) (m : Message)
  | noticeConfig (p : Port) (m : Message)
  | noticeArm (p : Port) (m : Message)
  | deviceReset (p : Port) (m : Message)
  | passStart
  | maintenanceStart
  | passComplete
  | saveComplete
  | restoreComplete
  | clearComplete
  | shiftComplete
  | scrubStart
  | scrubComplete
  | transactionStart (c : ClockedIn)
  | responseSent (c : ClockedOut)
  | transactionEnd (p : Port)
  deriving DecidableEq, Repr

end Sys2Proof
end

