-- ==== Sys2Proof/Decode.lean ====
section
/-! DEFINITION. The kind table's codes (section 9.4), the words of a command (R141) and the reading of
them, and `decodeTableWord`. No row of `spec/opcode_table.json` gives bits, so `decodeTableWord`
answers `none` for every word. -/

namespace Sys2Proof

/-- The kind code of a kind (section 9.4). -/
def kindCode : Kind → Byte
  | .nop => 0x01
  | .declareRef => 0x10
  | .refFrame => 0x11
  | .refConfig => 0x12
  | .refStatus => 0x13
  | .historyRead => 0x14
  | .micFrame => 0x20
  | .fetch => 0x21
  | .setMode => 0x22
  | .bind => 0x23
  | .unbind => 0x24
  | .resize => 0x25
  | .resetLane => 0x26
  | .laneStatus => 0x27
  | .coeffRead => 0x30
  | .coeffWrite => 0x31
  | .storeStatus => 0x32
  | .laneConfig => 0x40
  | .engineStatus => 0x41
  | .talkConfig => 0x50
  | .talkStatus => 0x51
  | .trackerConfig => 0x60
  | .trackerClear => 0x61
  | .setDelay => 0x62
  | .trackerStatus => 0x63
  | .meterConfig => 0x70
  | .meterRead => 0x71
  | .rearm => 0x80
  | .saveCheckpoint => 0x81
  | .dropCheckpoints => 0x82
  | .guardConfig => 0x83
  | .guardStatus => 0x84
  | .noticeRead => 0x90
  | .noticeConfig => 0x91
  | .noticeArm => 0x92
  | .deviceReset => 0xE0

/-- The kinds of the kind table, in its order. -/
def allKinds : List Kind :=
  [.nop, .declareRef, .refFrame, .refConfig, .refStatus, .historyRead, .micFrame, .fetch, .setMode,
   .bind, .unbind, .resize, .resetLane, .laneStatus, .coeffRead, .coeffWrite, .storeStatus,
   .laneConfig, .engineStatus, .talkConfig, .talkStatus, .trackerConfig, .trackerClear, .setDelay,
   .trackerStatus, .meterConfig, .meterRead, .rearm, .saveCheckpoint, .dropCheckpoints,
   .guardConfig, .guardStatus, .noticeRead, .noticeConfig, .noticeArm, .deviceReset]

/-- The kind a code names, if the code is in the kind table (R145, row 1). -/
def kindOfCode (c : Byte) : Option Kind :=
  allKinds.find? fun k => kindCode k == c

/-- The row of the opcode table that a kind's command is. -/
def instrOfKind : Kind → Port → Message → Instr
  | .nop => .nop
  | .declareRef => .declareRef
  | .refFrame => .refFrame
  | .refConfig => .refConfig
  | .refStatus => .refStatus
  | .historyRead => .historyRead
  | .micFrame => .micFrame
  | .fetch => .fetch
  | .setMode => .setMode
  | .bind => .bind
  | .unbind => .unbind
  | .resize => .resize
  | .resetLane => .resetLane
  | .laneStatus => .laneStatus
  | .coeffRead => .coeffRead
  | .coeffWrite => .coeffWrite
  | .storeStatus => .storeStatus
  | .laneConfig => .laneConfig
  | .engineStatus => .engineStatus
  | .talkConfig => .talkConfig
  | .talkStatus => .talkStatus
  | .trackerConfig => .trackerConfig
  | .trackerClear => .trackerClear
  | .setDelay => .setDelay
  | .trackerStatus => .trackerStatus
  | .meterConfig => .meterConfig
  | .meterRead => .meterRead
  | .rearm => .rearm
  | .saveCheckpoint => .saveCheckpoint
  | .dropCheckpoints => .dropCheckpoints
  | .guardConfig => .guardConfig
  | .guardStatus => .guardStatus
  | .noticeRead => .noticeRead
  | .noticeConfig => .noticeConfig
  | .noticeArm => .noticeArm
  | .deviceReset => .deviceReset

/-- A command's words are complete when the declared number of payload words has arrived, or at once
at header word 1 when the declared length is above 260 (R141, R147). -/
def messageComplete (m : Message) : Bool :=
  if m.declared.toNat ≤ Config.maxPayload then m.payload.length == m.declared.toNat
  else m.payload.isEmpty

/-- The command that a transaction's first words spell (R141 and the command header of section 9.8):
the kind code in the high byte of header word 0, the target in its low byte, the declared length in
header word 1, then the payload. Words past the last declared one are ignored. `none` while the
command is not complete. -/
def decodeCommand (p : Port) (words : List Word) : Option Instr :=
  match words with
  | w0 :: w1 :: rest =>
    let code := w0.extractLsb' 8 8
    let n := if w1.toNat ≤ Config.maxPayload then w1.toNat else 0
    if rest.length < n then none
    else
      let m : Message := { target := w0.extractLsb' 0 8, declared := w1, payload := rest.take n }
      match kindOfCode code with
      | some k => some (instrOfKind k p m)
      | none => some (.unknownKind p code m)
  | _ => none

/-- The words a master clocks in for a command of code `c` (R141, section 9.8). -/
def commandWords (c : Byte) (m : Message) : List Word :=
  (c ++ m.target) :: m.declared :: m.payload

/-- The command spelled by a word of the opcode table. The table gives no row any bits. -/
def decodeTableWord (_nbits _w : Nat) : Option Instr := none

end Sys2Proof
end

