-- ==== Sys2Proof/WellFormed.lean ====
section
/-! DEFINITION. Which terms of `Instr` are commands and events of the part. A message row stands for a
command that has been taken, so its words are complete; an unknown kind's code is not in the kind
table. The words of a TRANSACTION_START do not complete a command: the word that does is the command's
own row (R141). -/

namespace Sys2Proof

/-- The words of a message row are those of a complete command. -/
def Message.wellFormed (m : Message) : Bool := messageComplete m

/-- A term of `Instr` stands for a row of the table. -/
def Instr.wellFormed : Instr → Bool
  | .powerOn => true
  | .resetNAssert => true
  | .resetNRelease => true
  | .epochAdvance => true
  | .epochResolution _ => true
  | .frameExpiry _ => true
  | .lastAcceptedEpochAgeOut _ => true
  | .retryCountdownEnd _ => true
  | .holdCountdownEnd _ => true
  | .lastChangeAgeOut _ => true
  | .onsetRecordAgeOut _ => true
  | .lastSaveEpochAgeOut _ => true
  | .transactionTruncated _ => true
  | .responseCut _ => true
  | .unknownKind _ code m => (kindOfCode code).isNone && m.wellFormed
  | .nop _ m => m.wellFormed
  | .declareRef _ m => m.wellFormed
  | .refFrame _ m => m.wellFormed
  | .refConfig _ m => m.wellFormed
  | .refStatus _ m => m.wellFormed
  | .historyRead _ m => m.wellFormed
  | .micFrame _ m => m.wellFormed
  | .fetch _ m => m.wellFormed
  | .setMode _ m => m.wellFormed
  | .bind _ m => m.wellFormed
  | .unbind _ m => m.wellFormed
  | .resize _ m => m.wellFormed
  | .resetLane _ m => m.wellFormed
  | .laneStatus _ m => m.wellFormed
  | .coeffRead _ m => m.wellFormed
  | .coeffWrite _ m => m.wellFormed
  | .storeStatus _ m => m.wellFormed
  | .laneConfig _ m => m.wellFormed
  | .engineStatus _ m => m.wellFormed
  | .talkConfig _ m => m.wellFormed
  | .talkStatus _ m => m.wellFormed
  | .trackerConfig _ m => m.wellFormed
  | .trackerClear _ m => m.wellFormed
  | .setDelay _ m => m.wellFormed
  | .trackerStatus _ m => m.wellFormed
  | .meterConfig _ m => m.wellFormed
  | .meterRead _ m => m.wellFormed
  | .rearm _ m => m.wellFormed
  | .saveCheckpoint _ m => m.wellFormed
  | .dropCheckpoints _ m => m.wellFormed
  | .guardConfig _ m => m.wellFormed
  | .guardStatus _ m => m.wellFormed
  | .noticeRead _ m => m.wellFormed
  | .noticeConfig _ m => m.wellFormed
  | .noticeArm _ m => m.wellFormed
  | .deviceReset _ m => m.wellFormed
  | .passStart => true
  | .maintenanceStart => true
  | .passComplete => true
  | .saveComplete => true
  | .restoreComplete => true
  | .clearComplete => true
  | .shiftComplete => true
  | .scrubStart => true
  | .scrubComplete => true
  | .transactionStart c => (decodeCommand c.port c.words).isNone
  | .responseSent _ => true
  | .transactionEnd _ => true

end Sys2Proof
end

