-- ==== Sys2Proof/Machine/State.lean ====
section
/-! DEFINITION. The state of the part: every record the chapters give it, the queue of waiting
commands, and the state after reset. `INVENTORY.md` lists every field with the rule that names it. -/

namespace Sys2Proof.Machine

/-! ## Reference History (Chapter 1) -/

/-- What a history slot holds (R3). -/
inductive Fill where
  | none
  | data
  | gap
  deriving DecidableEq, Repr

/-- One frame slot of a ring (R3). -/
structure Slot where
  epoch   : Epoch
  fill    : Fill
  samples : Frame
  peak    : Nat
  energy  : Nat
  deriving DecidableEq, Repr

/-- The state of a reference (R2). -/
inductive RefState where
  | inactive
  | active
  | stalled
  deriving DecidableEq, Repr

/-- The record of a reference (R2). -/
structure Reference where
  state           : RefState
  wait            : Nat
  resolution      : Option Epoch
  newest          : Option Epoch
  consecutiveGaps : Nat
  continuous      : Nat
  totalGaps       : Counter
  lateRefusals    : Counter
  earlyRefusals   : Counter
  ring            : Vector Slot 128
  deriving DecidableEq, Repr

/-! ## Delay Tracker and Realign Control (Chapter 6) -/

/-- Whether SHIFT jobs of the reference are outstanding (R94). -/
inductive RealignState where
  | idle
  | shifting
  deriving DecidableEq, Repr

/-- Where a proposal comes from (R94). -/
inductive Origin where
  | tracker
  | portS
  deriving DecidableEq, Repr

/-- The direction of a change of target delay (R94). -/
inductive Direction where
  | up
  | down
  deriving DecidableEq, Repr

/-- The realign record of a reference (R94). -/
structure Realign where
  target     : Nat
  state      : RealignState
  proposal   : Option (Nat × Origin)
  lastChange : Option (Direction × Epoch)
  hold       : Nat
  deriving DecidableEq, Repr

/-- The tracker's state (R95). `.off` exactly while enable is off. -/
inductive TrackerState where
  | off
  | disarmed
  | armed
  | opened
  deriving DecidableEq, Repr

/-- An open onset record: the reference onset's absolute sample index and its epoch (R95). -/
structure Onset where
  index : SampleIndex
  epoch : Epoch
  deriving DecidableEq, Repr

/-- The tracker record of a reference (R95). -/
structure Tracker where
  state      : TrackerState
  enabled    : Bool
  pilot      : LaneId
  refLevel   : Nat
  quietLevel : Nat
  quietNeed  : Nat
  micLevel   : Nat
  tolerance  : Nat
  guard      : Nat
  quietCount : Nat
  onset      : Option Onset
  lags       : List Nat
  matchCount : Counter
  missCount  : Counter
  deriving DecidableEq, Repr

/-! ## Lane Table (Chapter 2) -/

/-- The state of a lane (R20, R21). -/
inductive LaneState where
  | unbound
  | clearing
  | bypass
  | run
  | tripped
  | lockout
  deriving DecidableEq, Repr

/-- An input frame: an epoch tag and 128 samples (R20). -/
structure InFrame where
  epoch   : Epoch
  samples : Frame
  deriving DecidableEq, Repr

/-- The kind of an output frame (R20). -/
inductive OutKind where
  | cancelled
  | passthrough
  deriving DecidableEq, Repr

/-- The talk states (R83). -/
inductive TalkState where
  | quiet
  | far
  | near
  | double
  deriving DecidableEq, Repr

/-- An output frame (R20). -/
structure OutFrame where
  epoch   : Epoch
  kind    : OutKind
  talk    : Option TalkState
  gated   : Bool
  samples : Frame
  deriving DecidableEq, Repr

/-- Why a chain did not adapt, or that it did (R73, R156). -/
inductive Freeze where
  | adapting
  | mode
  | stepZero
  | refInactive
  | refStalled
  | refill
  | talk
  | shiftPending
  deriving DecidableEq, Repr

/-- The measurements of the lane's most recent completed pass (R83). -/
structure Detection where
  micPeak   : Nat
  refPeak   : Nat
  farActive : Bool
  detected  : Bool
  deriving DecidableEq, Repr

/-- The talk-state fields of a lane (R83). -/
structure Talk where
  state     : TalkState
  hangover  : Nat
  last      : Option Detection
  threshold : Nat
  hang      : Nat
  farFloor  : Nat
  nearFloor : Nat
  deriving DecidableEq, Repr

/-- Two energies and the return-loss steps between them (R112). -/
structure Reading where
  mic   : Nat
  out   : Nat
  steps : Nat
  deriving DecidableEq, Repr

/-- The meter fields of a lane (R112). The lock flag is the lane record's. -/
structure Meter where
  recent      : Option Reading
  windowCode  : Nat
  windowCount : Nat
  sumM        : Nat
  sumO        : Nat
  latched     : Option Reading
  latches     : Counter
  window      : Nat
  lockLevel   : Nat
  lowLevel    : Nat
  gateDepth   : Nat
  deriving DecidableEq, Repr

/-- A checkpoint entry (R130). -/
structure Checkpoint where
  sequence : Word
  epoch    : Epoch
  steps    : Option Nat
  delays   : Vector (Option Nat) 3
  span     : Nat
  slots    : List SlotId
  deriving DecidableEq, Repr

/-- The guard fields of a lane (R122). The stack is kept newest first. -/
structure Guard where
  divergence   : Nat
  tripCount    : Nat
  totalTrips   : Counter
  retry        : Option Nat
  lastSave     : Option Epoch
  nextSequence : Word
  stack        : List Checkpoint
  margin       : Nat
  hold         : Nat
  retryDelay   : Nat
  attempts     : Nat
  saveLevel    : Nat
  saveInterval : Nat
  span         : Nat
  autoSave     : Bool
  deriving DecidableEq, Repr

/-- The five lane counters (R39). -/
structure LaneCounters where
  micSkips   : Counter
  expired    : Counter
  overruns   : Counter
  errorSats  : Counter
  coeffSats  : Counter
  deriving DecidableEq, Repr

/-- The record of a lane (R20, with the fields of R80, R83, R112 and R122). -/
structure Lane where
  state        : LaneState
  refs         : Option RefSet
  tail         : Option Nat
  delays       : Vector (Option Nat) 3
  input        : List InFrame
  inFlight     : Option InFrame
  output       : List OutFrame
  lastAccepted : Option Epoch
  cursor       : Nat
  freeze       : Option (Vector (Option Freeze) 3)
  lock         : Bool
  talk         : Talk
  meter        : Meter
  guard        : Guard
  step         : Nat
  quota        : Nat
  regularize   : Nat
  counters     : LaneCounters
  deriving DecidableEq, Repr

/-! ## Coefficient Store and Checkpoint Store (Chapters 3 and 8) -/

/-- The map record of a partition (R42). -/
inductive PartRecord where
  | free
  | bound (l : LaneId) (r : RefId) (position : Nat)
  | scrub
  deriving DecidableEq, Repr

/-- The Coefficient Store, its partition map and the scrubber (R41, R42, R47). -/
structure Store where
  map    : Vector PartRecord 384
  coefs  : Vector Partition 384
  scrub  : Option PartId
  deriving DecidableEq, Repr

/-- The Checkpoint Store: its slots, and which of them are free (R131). -/
structure CheckpointStore where
  slots : Vector Partition 96
  free  : Vector Bool 96
  deriving DecidableEq, Repr

/-! ## Filter Engine (Chapter 4) -/

/-- What a waiting maintenance entry asks for (R60). -/
inductive MaintKind where
  | save
  | restore
  | clear
  | shift (r : RefId) (delta : Int)
  deriving DecidableEq, Repr

/-- An entry of the Maintenance Queue (R60). -/
structure MaintEntry where
  kind : MaintKind
  lane : LaneId
  deriving DecidableEq, Repr

/-- The coefficients of a lane's chains, head partition first; empty for a reference not bound. -/
abbrev Chains := Vector (List Partition) 3

/-- What R66 fixes at the start of a pass. -/
structure PassInputs where
  lane   : LaneId
  frame  : InFrame
  record : Lane
  refs   : Vector Reference 3
  chains : Chains
  deriving DecidableEq, Repr

/-- The job in flight (R58), with what it read at its start (R59, R134, R135). `saved` holds the slot
contents of the entry on top of the stack. -/
inductive Job where
  | pass (inputs : PassInputs) (grant : Nat)
  | save (l : LaneId) (record : Lane) (chains : Chains) (epoch : Epoch)
  | restore (l : LaneId) (record : Lane) (saved : Chains)
  | clear (l : LaneId)
  | shift (l : LaneId) (r : RefId) (delta : Int) (old : List Partition)
  deriving DecidableEq, Repr

/-- The Filter Engine (R58, R60, R77, R82). -/
structure Engine where
  job    : Option Job
  queue  : List MaintEntry
  budget : Nat
  passes : Counter
  deriving DecidableEq, Repr

/-! ## Message Ports and Notice Unit (Chapters 9 and 10) -/

/-- A port's transaction decoder (R140): in COMMAND the command words received, oldest first; in
RESPONDING the words of the turnaround and the response (R142) not yet clocked out, the next one
first. -/
inductive Decoder where
  | wait
  | command (received : List Word)
  | responding (unsent : List Word)
  | draining
  deriving DecidableEq, Repr

/-- The twelve notice kinds (R157). -/
inductive NoticeKind where
  | laneLockout
  | laneTrip
  | refStall
  | delayHunt
  | refResume
  | delaySet
  | erleLow
  | erleLock
  | outputOverrun
  | frameExpired
  | checkpointSkipped
  | portFault
  deriving DecidableEq, Repr

/-- A notice: a kind and the number of its source (R157). -/
structure Notice where
  kind   : NoticeKind
  source : Nat
  deriving DecidableEq, Repr

/-- A port's line mode (R158). -/
inductive LineMode where
  | level
  | pulse
  deriving DecidableEq, Repr

/-- An attention line (R160). `.pulsed`: one pulse was driven in the event taken last, and has ended
(log 17). -/
inductive Line where
  | released
  | asserted
  | pulsed
  deriving DecidableEq, Repr

/-- The notice state of a port (R158), the pending set kept in reading order (R161), and its attention
line. `pulses` is the model's own: how many pulses the line has been driven with since the last reset
(log 17). -/
structure Notices where
  enabled : BitVec 12
  pending : List Notice
  armed   : Bool
  mode    : LineMode
  line    : Line
  pulses  : Nat
  deriving DecidableEq, Repr

/-- What each port holds (R140, R152, R158). -/
structure PortState where
  decoder   : Decoder
  truncated : Counter
  unknown   : Counter
  notices   : Notices
  deriving DecidableEq, Repr

/-! ## The part -/

/-- An action that an advance of E brings about and that is a row of the opcode table of its own. -/
inductive EpochAction where
  | onsetAge (r : RefId)
  | resolve (r : RefId)
  | holdEnd (r : RefId)
  | changeAge (r : RefId)
  | expire (l : LaneId)
  | acceptedAge (l : LaneId)
  | retryEnd (l : LaneId)
  | saveAge (l : LaneId)
  deriving DecidableEq, Repr

/-- The whole part. `due` is the model's own: the actions of the last advance not carried out yet
(log 3). So is `scrubAbandoned`: the event taken last is a DEVICE RESET that abandoned a scrub in
progress (log 10). `pending` is the queue of waiting commands (log 1). -/
structure State where
  epoch       : Epoch
  resetLow    : Bool
  refs        : Vector Reference 3
  realigns    : Vector Realign 3
  trackers    : Vector Tracker 3
  lanes       : Vector Lane 16
  store       : Store
  checkpoints : CheckpointStore
  engine      : Engine
  ports       : Vector PortState 3
  due         : List EpochAction
  scrubAbandoned : Bool
  pending     : List Instr
  deriving DecidableEq, Repr

/-- The faults of the part. The manual names none: every command is answered and every event acts, so
this type has no constructor. -/
inductive Fault where
  deriving DecidableEq, Repr

/-- Why a command is refused by the model (never by the part, whose refusals are status codes). -/
inductive Refusal where
  /-- Raised by `exec` for a row that has no meaning. Safe: the model stops. -/
  | notModelled (mnemonic : String)
  /-- Raised by the message rows, UNKNOWN_KIND and TRANSACTION_START for a term that is no row of the
  table: a command whose words are
  not complete, an unknown kind whose code the kind table holds, or a TRANSACTION_START whose words
  complete a command. Safe: the model stops. -/
  | illFormed
  deriving DecidableEq, Repr

/-! ## The state after reset -/

/-- A slot after reset (R3). -/
def Slot.reset : Slot :=
  { epoch := 0, fill := .none, samples := Vector.replicate 128 0, peak := 0, energy := 0 }

/-- A reference record after reset (R2). -/
def Reference.reset : Reference :=
  { state := .inactive, wait := 2, resolution := none, newest := none, consecutiveGaps := 0,
    continuous := 0, totalGaps := 0, lateRefusals := 0, earlyRefusals := 0,
    ring := Vector.replicate 128 Slot.reset }

/-- A realign record after reset (R94). -/
def Realign.reset : Realign :=
  { target := 0, state := .idle, proposal := none, lastChange := none, hold := 0 }

/-- A tracker record after reset (R95). -/
def Tracker.reset : Tracker :=
  { state := .off, enabled := false, pilot := 0, refLevel := 4096, quietLevel := 256,
    quietNeed := 4, micLevel := 1024, tolerance := 8, guard := 32, quietCount := 0, onset := none,
    lags := [], matchCount := 0, missCount := 0 }

/-- The talk-state fields after reset (R83). -/
def Talk.reset : Talk :=
  { state := .quiet, hangover := 0, last := none, threshold := 8, hang := 6, farFloor := 328,
    nearFloor := 328 }

/-- The meter fields after reset (R112). -/
def Meter.reset : Meter :=
  { recent := none, windowCode := 2, windowCount := 0, sumM := 0, sumO := 0, latched := none,
    latches := 0, window := 2, lockLevel := 6, lowLevel := 3, gateDepth := 1 }

/-- The guard fields after reset (R122). -/
def Guard.reset : Guard :=
  { divergence := 0, tripCount := 0, totalTrips := 0, retry := none, lastSave := none,
    nextSequence := 0, stack := [], margin := 1, hold := 4, retryDelay := 16, attempts := 3,
    saveLevel := 9, saveInterval := 512, span := 2, autoSave := true }

/-- The lane counters after reset (R39). -/
def LaneCounters.reset : LaneCounters :=
  { micSkips := 0, expired := 0, overruns := 0, errorSats := 0, coeffSats := 0 }

/-- A lane record after reset (R20, and R80 for the engine's parameters). -/
def Lane.reset : Lane :=
  { state := .unbound, refs := none, tail := none, delays := Vector.replicate 3 none, input := [],
    inFlight := none, output := [], lastAccepted := none, cursor := 0, freeze := none,
    lock := false, talk := Talk.reset, meter := Meter.reset, guard := Guard.reset, step := 48,
    quota := 4, regularize := 20, counters := LaneCounters.reset }

/-- The Coefficient Store after reset (R49): every partition in SCRUB, and the scrubber started on
partition 0. The contents before a partition's scrub are not given; zero here (log 8). -/
def Store.reset : Store :=
  { map := Vector.replicate 384 .scrub,
    coefs := Vector.replicate 384 (Vector.replicate 256 0),
    scrub := some 0 }

/-- The Checkpoint Store after reset (R131). The contents of a free slot are not given; zero here
(log 8). -/
def CheckpointStore.reset : CheckpointStore :=
  { slots := Vector.replicate 96 (Vector.replicate 256 0), free := Vector.replicate 96 true }

/-- The engine after reset (R58, R60, R77, R82). -/
def Engine.reset : Engine :=
  { job := none, queue := [], budget := Config.budget, passes := 0 }

/-- The notice state after reset (R158). -/
def Notices.reset : Notices :=
  { enabled := 0, pending := [], armed := true, mode := .level, line := .released, pulses := 0 }

/-- A port after reset (R152, R155, R158). -/
def PortState.reset : PortState :=
  { decoder := .wait, truncated := 0, unknown := 0, notices := Notices.reset }

/-- The part right after reset: RESET_N has been released, E is 0, the scrubber is on partition 0
(R1, R49, and log 7), and no command waits. -/
def State.reset : State :=
  { epoch := 0, resetLow := false, refs := Vector.replicate 3 Reference.reset,
    realigns := Vector.replicate 3 Realign.reset, trackers := Vector.replicate 3 Tracker.reset,
    lanes := Vector.replicate 16 Lane.reset, store := Store.reset,
    checkpoints := CheckpointStore.reset, engine := Engine.reset,
    ports := Vector.replicate 3 PortState.reset, due := [], scrubAbandoned := false,
    pending := [] }

end Sys2Proof.Machine
end

