-- ==== Sys2Proof/Machine/Flags.lean ====
section
/-! DEFINITION. The part's arithmetic: epoch comparisons, sample indices, event counters, rounding
shifts, saturation and bit lengths (section 4 of *About This Manual*, and R69). -/

namespace Sys2Proof.Machine

/-! ## Epochs and sample indices -/

/-- "`e` is k epochs behind `now`": the signed difference `now − e` modulo 65536 (section 4). -/
def behind (now e : Epoch) : Int := (now - e).toInt

/-- "`e` is k epochs ahead of `now`": the signed difference `e − now` modulo 65536 (section 4). -/
def ahead (now e : Epoch) : Int := (e - now).toInt

/-- "`e` is after `f`": `e − f` is positive (section 4). -/
def isAfter (e f : Epoch) : Bool := decide (0 < (e - f).toInt)

/-- `e` moved by `k` epochs, modulo 65536. -/
def epochPlus (e : Epoch) (k : Int) : Epoch := e + BitVec.ofInt 16 k

/-- The absolute index of the sample `i` samples after the first sample of epoch `e`, modulo 8388608.
`i` may be negative: an index formed by subtracting a delay and a tap number (section 1.1). -/
def sampleIndex (e : Epoch) (i : Int) : SampleIndex := BitVec.ofInt 23 (128 * (e.toNat : Int) + i)

/-- The epoch of the sample with absolute index `n` (section 1.1). -/
def indexEpoch (n : SampleIndex) : Epoch := BitVec.ofNat 16 (n.toNat / 128)

/-- The offset within its frame of the sample with absolute index `n` (section 1.1). -/
def indexOffset (n : SampleIndex) : Fin 128 := ⟨n.toNat % 128, Nat.mod_lt _ (by decide)⟩

/-- The ring slot of epoch `e` (R3). -/
def slotOf (e : Epoch) : Fin 128 := ⟨e.toNat % 128, Nat.mod_lt _ (by decide)⟩

/-! ## Counting -/

/-- A 16-bit event counter advanced by `n`: it stops at 65535 (section 4, *Event counters*). -/
def countUp (c : Counter) (n : Nat) : Counter := BitVec.ofNat 16 (min 65535 (c.toNat + n))

/-- `v` clamped to the range `lo` to `hi`. -/
def clampInt (lo hi v : Int) : Int := max lo (min hi v)

/-! ## Shifts, saturation, bit lengths -/

/-- "Shifted right by `s` with rounding" (section 4): halves round toward plus infinity. A shift by 0
leaves the value (R118). -/
def roundShift (v : Int) (s : Nat) : Int :=
  if s = 0 then v else (v + 2 ^ (s - 1)) / 2 ^ s

/-- "Saturated to 16 bits" (section 4). -/
def saturate16 (v : Int) : Int := clampInt (-32768) 32767 v

/-- "Saturated to 24 bits" (section 4). -/
def saturate24 (v : Int) : Int := clampInt (-8388608) 8388607 v

/-- The bit length of a non-negative integer (R69). -/
def bitLength (v : Nat) : Nat := if v = 0 then 0 else Nat.log2 v + 1

/-- Return-loss steps: the bit length of `m` less that of `o`, set to 0 when negative and to 31 when
above 31 (R113, R115). -/
def lossSteps (m o : Nat) : Nat := min 31 (bitLength m - bitLength o)

/-- A frame is diverging when the bit length of `eo` is greater than that of `em` plus the margin
(R123). -/
def diverging (em eo margin : Nat) : Bool := decide (bitLength em + margin < bitLength eo)

/-! ## Peaks and energies of 128 samples -/

/-- The largest magnitude of the samples (R11, R84). -/
def peakOf (f : Frame) : Nat := (f.toList.map fun x => x.toInt.natAbs).foldl max 0

/-- The sum of the squares of the samples (R11, R71). -/
def energyOf (f : Frame) : Nat := (f.toList.map fun x => x.toInt.natAbs ^ 2).sum

/-- A frame of 128 zero samples (R12). -/
def silence : Frame := Vector.replicate 128 0

/-- A partition of 256 zero coefficients (R48). -/
def zeroPartition : Partition := Vector.replicate 256 0

end Sys2Proof.Machine
end

