-- ==== Sys2Proof/Machine/Operands.lean ====
section
/-! DEFINITION. The operand forms: how a command's words are read (R150, R156) and how the fields of a
response are carried (R142, R156). -/

namespace Sys2Proof.Machine

/-! ## Reading a command -/

/-- Payload word `n` of a command. -/
def argWord (m : Message) (n : Nat) : Word := m.payload.getD n 0

/-- Payload word `n` as an unsigned value. -/
def argNat (m : Message) (n : Nat) : Nat := (argWord m n).toNat

/-- Payload word `n` read as a signed 16-bit value (R150). -/
def argInt (m : Message) (n : Nat) : Int := (argWord m n).toInt

/-- The lane a target names, if it is in 0 to 15 (section 9.4). -/
def laneTarget (m : Message) : Option LaneId :=
  if h : m.target.toNat < 16 then some ⟨m.target.toNat, h⟩ else none

/-- The reference a target names, if it is in 0 to 2 (section 9.4). -/
def refTarget (m : Message) : Option RefId :=
  if h : m.target.toNat < 3 then some ⟨m.target.toNat, h⟩ else none

/-- The reference a word names, if it is in 0 to 2. -/
def refArg (m : Message) (n : Nat) : Option RefId :=
  if h : argNat m n < 3 then some ⟨argNat m n, h⟩ else none

/-- The lane a word names, if it is in 0 to 15. -/
def laneArg (m : Message) (n : Nat) : Option LaneId :=
  if h : argNat m n < 16 then some ⟨argNat m n, h⟩ else none

/-- A field that is 0 or 1. -/
def flagArg (m : Message) (n : Nat) : Option Bool :=
  if argNat m n = 0 then some false else if argNat m n = 1 then some true else none

/-- A tuning value: payload word `n`, signed, clamped to `lo` to `hi` (R150). -/
def tuned (m : Message) (n : Nat) (lo hi : Nat) : Nat := (clampInt lo hi (argInt m n)).toNat

/-- Clamping changed the tuning value in payload word `n` (R150). -/
def clamped (m : Message) (n : Nat) (lo hi : Nat) : Bool :=
  decide (argInt m n ≠ (tuned m n lo hi : Int))

/-- The 128 samples that begin at payload word `n`, oldest first. -/
def argFrame (m : Message) (n : Nat) : Frame := Vector.ofFn fun i => argWord m (n + i.val)

/-- The value carried in payload words `n` and `n + 1`, high word first, signed (section 3.7). -/
def argLong (m : Message) (n : Nat) : Int := (argWord m n ++ argWord m (n + 1)).toInt

/-! ## Carrying a response -/

/-- A value in one word. -/
def wordOf (n : Nat) : Word := BitVec.ofNat 16 n

/-- A flag in one word: 1 set, yes or on; 0 clear, no or off (R156). -/
def flagWord (b : Bool) : Word := if b then 1 else 0

/-- The word that carries an absent value (R142). -/
def absentWord : Word := 65535

/-- A field that may be absent and whose values do not include 65535 (R142). -/
def optWord (o : Option Nat) : Word :=
  match o with
  | some n => wordOf n
  | none => absentWord

/-- A field that may be absent and whose values include 65535: its presence word, then its words
(R142). `n` is how many words the value takes. -/
def presentWords (n : Nat) (o : Option (List Word)) : List Word :=
  match o with
  | some ws => 1 :: ws
  | none => 0 :: List.replicate n absentWord

/-- An epoch that may be absent: a presence word and the epoch (R142). -/
def optEpoch (o : Option Epoch) : List Word := presentWords 1 (o.map fun e => [e])

/-- An event counter of a report that marks it absent for an UNBOUND lane (R142, log 13). -/
def optCounter (o : Option Counter) : List Word := presentWords 1 (o.map fun c => [c])

/-- An energy in three words, high word first (R156). -/
def energyWords (e : Nat) : List Word := [wordOf (e / 4294967296), wordOf (e / 65536), wordOf e]

/-- An energy that may be absent: a presence word and three words (R142, R156). -/
def optEnergy (o : Option Nat) : List Word := presentWords 3 (o.map energyWords)

/-- An absolute sample index in two words, high word first (R156). -/
def indexWords (n : SampleIndex) : List Word := [wordOf (n.toNat / 65536), wordOf n.toNat]

/-- A coefficient as a signed 32-bit value in two words, high word first (R53). -/
def coefWords (c : Coef) : List Word :=
  let v : BitVec 32 := c.signExtend 32
  [v.extractLsb' 16 16, v.extractLsb' 0 16]

/-- A signed value in one word, in two's complement (R142). -/
def intWord (v : Int) : Word := BitVec.ofInt 16 v

/-- The code of a slot's fill (R156). -/
def fillCode : Fill → Word
  | .none => 0
  | .data => 1
  | .gap => 2

/-- The code of a reference state (R156). -/
def refStateCode : RefState → Word
  | .inactive => 0
  | .active => 1
  | .stalled => 2

/-- The code of a lane state (R156). -/
def laneStateCode : LaneState → Word
  | .unbound => 0
  | .clearing => 1
  | .bypass => 2
  | .run => 3
  | .tripped => 4
  | .lockout => 5

/-- The code of a talk state (R156). -/
def talkCode : TalkState → Word
  | .quiet => 1
  | .far => 2
  | .near => 3
  | .double => 4

/-- The code of a freeze reason (R156). -/
def freezeCode : Freeze → Word
  | .adapting => 0
  | .mode => 1
  | .stepZero => 2
  | .refInactive => 3
  | .refStalled => 4
  | .refill => 5
  | .talk => 6
  | .shiftPending => 7

/-- The code of a tracker state (R156). -/
def trackerCode : TrackerState → Word
  | .off => 0
  | .disarmed => 1
  | .armed => 2
  | .opened => 3

/-- The code of a realign state (R156). -/
def realignCode : RealignState → Word
  | .idle => 0
  | .shifting => 1

/-- The code of a proposal's origin (R156). -/
def originCode : Origin → Word
  | .tracker => 0
  | .portS => 1

/-- The code of the sign of a last change (R156). -/
def directionCode : Direction → Word
  | .up => 0
  | .down => 1

/-- The code of an output frame's kind (R156). -/
def outKindCode : OutKind → Nat
  | .cancelled => 1
  | .passthrough => 2

/-- The frame descriptor of a FETCH response (section 9.8). -/
def descriptor (f : OutFrame) : Word :=
  wordOf (outKindCode f.kind * 256
    + (match f.talk with
       | some t => (talkCode t).toNat
       | none => 0) * 16
    + (if f.gated then 1 else 0))

/-- The number of a port: 0 for Port R, 1 for Port M, 2 for Port S (R153, R157). -/
def portIndex : Port → Fin 3
  | .portR => 0
  | .portM => 1
  | .portS => 2

/-- The priority number of a notice kind, which is also its code (R157). -/
def noticePriority : NoticeKind → Nat
  | .laneLockout => 1
  | .laneTrip => 2
  | .refStall => 3
  | .delayHunt => 4
  | .refResume => 5
  | .delaySet => 6
  | .erleLow => 7
  | .erleLock => 8
  | .outputOverrun => 9
  | .frameExpired => 10
  | .checkpointSkipped => 11
  | .portFault => 12

/-- The status of a response (R149). -/
inductive Status where
  | ok
  | clamped
  | queued
  | ended
  | busy
  | wrongPort
  | wrongState
  | badArg
  | noSpace
  | early
  | late
  | stale
  | duplicate
  | full
  | empty
  | unknown
  deriving DecidableEq, Repr

/-- The status codes (R149). -/
def statusCode : Status → Byte
  | .ok => 0x00
  | .clamped => 0x01
  | .queued => 0x02
  | .ended => 0x03
  | .busy => 0x10
  | .wrongPort => 0x11
  | .wrongState => 0x12
  | .badArg => 0x13
  | .noSpace => 0x14
  | .early => 0x20
  | .late => 0x21
  | .stale => 0x22
  | .duplicate => 0x23
  | .full => 0x24
  | .empty => 0x25
  | .unknown => 0x3F

/-- A response: word 0 with the status and the echoed kind code, word 1 with the payload length, then
the payload (R141). -/
def responseWords (st : Status) (code : Byte) (payload : List Word) : List Word :=
  (statusCode st ++ code) :: wordOf payload.length :: payload

end Sys2Proof.Machine
end

