-- ==== Sys2Proof/Machine/Ops.lean ====
section
/-! DEFINITION. The named operations over the part's state: reading and replacing a record, raising a
notice, the Coefficient Store and its map, the Checkpoint Store, and the Maintenance Queue. -/

namespace Sys2Proof.Machine

/-! ## Records -/

/-- The history record of reference `r`. -/
def State.ref (s : State) (r : RefId) : Reference := s.refs[r]

/-- The realign record of reference `r`. -/
def State.realign (s : State) (r : RefId) : Realign := s.realigns[r]

/-- The tracker record of reference `r`. -/
def State.tracker (s : State) (r : RefId) : Tracker := s.trackers[r]

/-- The record of lane `l`. -/
def State.lane (s : State) (l : LaneId) : Lane := s.lanes[l]

/-- The record of port `p`. -/
def State.port (s : State) (p : Port) : PortState := s.ports[portIndex p]

/-- Replaces the history record of `r`. -/
def State.setRef (s : State) (r : RefId) (x : Reference) : State := { s with refs := s.refs.set r x }

/-- Replaces the realign record of `r`. -/
def State.setRealign (s : State) (r : RefId) (x : Realign) : State :=
  { s with realigns := s.realigns.set r x }

/-- Replaces the tracker record of `r`. -/
def State.setTracker (s : State) (r : RefId) (x : Tracker) : State :=
  { s with trackers := s.trackers.set r x }

/-- Replaces the record of lane `l`. -/
def State.setLane (s : State) (l : LaneId) (x : Lane) : State := { s with lanes := s.lanes.set l x }

/-- Replaces the record of port `p`. -/
def State.setPort (s : State) (p : Port) (x : PortState) : State :=
  { s with ports := s.ports.set (portIndex p) x }

/-- The references in ascending order. -/
def allRefs : List RefId := [0, 1, 2]

/-- The lanes in ascending order. -/
def allLanes : List LaneId := List.finRange 16

/-- The references of a set, in ascending order. -/
def refsOf (set : RefSet) : List RefId := allRefs.filter fun r => set.getLsbD r.val

/-- The bound references of a lane, in ascending order; none for an UNBOUND lane. -/
def boundRefs (x : Lane) : List RefId := refsOf (x.refs.getD 0)

/-- The tail of a lane; 0 where it is absent. -/
def tailOf (x : Lane) : Nat := x.tail.getD 0

/-- The applied delay of a lane for a bound reference. -/
def delayOf (x : Lane) (r : RefId) : Nat := (x.delays[r]).getD 0

/-- The lanes bound to `r`, in ascending order. -/
def State.lanesBoundTo (s : State) (r : RefId) : List LaneId :=
  allLanes.filter fun l => (boundRefs (s.lane l)).contains r

/-! ## The Notice Unit (R159, R160) -/

/-- A kind's bit in the enabled set (R163). -/
def kindEnabled (n : Notices) (k : NoticeKind) : Bool := n.enabled.getLsbD (noticePriority k - 1)

/-- Reading order: lower priority number first, then lower source (R161). -/
def noticeBefore (a b : Notice) : Bool :=
  noticePriority a.kind < noticePriority b.kind
    || (noticePriority a.kind == noticePriority b.kind && a.source < b.source)

/-- Adds a notice to a pending set kept in reading order. -/
def insertNotice (x : Notice) : List Notice → List Notice
  | [] => [x]
  | y :: ys => if noticeBefore x y then x :: y :: ys else y :: insertNotice x ys

/-- The line in LEVEL mode: asserted exactly while armed with the set not empty (R160). -/
def levelLine (armed : Bool) (pending : List Notice) : Line :=
  if armed && !pending.isEmpty then .asserted else .released

/-- The line is pulsed. The pulses called for within one event are driven as one (R160). -/
def drivePulse (n : Notices) : Notices :=
  { n with line := .pulsed, pulses := if n.line = .pulsed then n.pulses else n.pulses + 1 }

/-- A pair enters the pending set of a port (R159, R160). -/
def enterPending (x : Notice) (n : Notices) : Notices :=
  let n' := { n with pending := insertNotice x n.pending }
  match n.mode with
  | .level => { n' with line := levelLine n.armed n'.pending }
  | .pulse => if n.armed then drivePulse n' else n'

/-- A notice raised on one port (R159). -/
def raiseOnPort (x : Notice) (n : Notices) : Notices :=
  if kindEnabled n x.kind && !n.pending.contains x then enterPending x n else n

/-- A block raises a notice of kind `k` with source `source`, on each port separately (R159). -/
def State.raise (s : State) (k : NoticeKind) (source : Nat) : State :=
  { s with ports := Vector.ofFn fun i =>
      { s.ports[i] with notices := raiseOnPort { kind := k, source := source } s.ports[i].notices } }

/-- Raises a notice whose source is a lane. -/
def State.raiseLane (s : State) (k : NoticeKind) (l : LaneId) : State := s.raise k l.val

/-- Raises a notice whose source is a reference. -/
def State.raiseRef (s : State) (k : NoticeKind) (r : RefId) : State := s.raise k r.val

/-- A pulse ends before the next event is taken (R160). -/
def State.endPulses (s : State) : State :=
  { s with ports := Vector.ofFn fun i =>
      { s.ports[i] with notices :=
          { s.ports[i].notices with line :=
              if s.ports[i].notices.line = .pulsed then .released else s.ports[i].notices.line } } }

/-! ## The Coefficient Store (Chapter 3) -/

/-- The partitions in ascending order. -/
def allParts : List PartId := List.finRange 384

/-- The partition at position `j` of the chain of lane `l` for reference `r` (R43). -/
def Store.partAt (st : Store) (l : LaneId) (r : RefId) (j : Nat) : Option PartId :=
  allParts.find? fun p => st.map[p] == .bound l r j

/-- The FREE partitions, lowest-numbered first (R44). -/
def Store.freeParts (st : Store) : List PartId := allParts.filter fun p => st.map[p] == .free

/-- The SCRUB partitions, lowest-numbered first (R47). -/
def Store.scrubParts (st : Store) : List PartId := allParts.filter fun p => st.map[p] == .scrub

/-- The record is BOUND. -/
def PartRecord.isBound : PartRecord → Bool
  | .bound _ _ _ => true
  | _ => false

/-- The number of BOUND partitions (R57). -/
def Store.boundCount (st : Store) : Nat := (allParts.filter fun p => (st.map[p]).isBound).length

/-- The coefficients at position `j` of a chain; zero where there is no such position. -/
def Store.readPart (st : Store) (l : LaneId) (r : RefId) (j : Nat) : Partition :=
  match st.partAt l r j with
  | some p => st.coefs[p]
  | none => zeroPartition

/-- Writes the coefficients at position `j` of a chain, if the chain has that position. -/
def Store.writePart (st : Store) (l : LaneId) (r : RefId) (j : Nat) (x : Partition) : Store :=
  match st.partAt l r j with
  | some p => { st with coefs := st.coefs.set p x }
  | none => st

/-- The first `n` partitions of a chain, from the head. -/
def Store.readChain (st : Store) (l : LaneId) (r : RefId) (n : Nat) : List Partition :=
  (List.range n).map fun j => st.readPart l r j

/-- Writes the partitions `xs` of a chain from position `j` on. -/
def Store.writeChain (st : Store) (l : LaneId) (r : RefId) : Nat → List Partition → Store
  | _, [] => st
  | j, x :: xs => (st.writePart l r j x).writeChain l r (j + 1) xs

/-- Tap `k` of a chain given by its partitions (R43); zero past its end. -/
def tapOf (chain : List Partition) (k : Nat) : Coef :=
  (chain.getD (k / 256) zeroPartition)[(⟨k % 256, Nat.mod_lt _ (by decide)⟩ : Fin 256)]

/-- Tap `k` of the chain of lane `l` for reference `r` (R43). -/
def Store.readTap (st : Store) (l : LaneId) (r : RefId) (k : Nat) : Coef :=
  (st.readPart l r (k / 256))[(⟨k % 256, Nat.mod_lt _ (by decide)⟩ : Fin 256)]

/-- Writes tap `k` of a chain (R55). -/
def Store.writeTap (st : Store) (l : LaneId) (r : RefId) (k : Nat) (c : Coef) : Store :=
  st.writePart l r (k / 256)
    ((st.readPart l r (k / 256)).set (⟨k % 256, Nat.mod_lt _ (by decide)⟩ : Fin 256) c)

/-- Makes partition `p` BOUND at a position of a chain (R44). -/
def Store.bindPart (st : Store) (p : PartId) (l : LaneId) (r : RefId) (j : Nat) : Store :=
  { st with map := st.map.set p (.bound l r j) }

/-- The places an allocation fills, in order: positions `start` to `stop − 1` of each chain, the
references ascending (R44). -/
def allocationPlaces (refs : List RefId) (start stop : Nat) : List (RefId × Nat) :=
  refs.flatMap fun r => (List.range' start (stop - start)).map fun j => (r, j)

/-- Gives the partitions `ps`, in order, to the places of lane `l`. -/
def Store.bindAll (st : Store) (l : LaneId) : List (PartId × RefId × Nat) → Store
  | [] => st
  | (p, r, j) :: rest => (st.bindPart p l r j).bindAll l rest

/-- An allocation for lane `l`, taken from the free set all at once (R44); `none` when too few
partitions are FREE. -/
def Store.allocate (st : Store) (l : LaneId) (refs : List RefId) (start stop : Nat) :
    Option Store :=
  let places := allocationPlaces refs start stop
  if st.freeParts.length < places.length then none
  else some (st.bindAll l (st.freeParts.zip places))

/-- The record is BOUND to lane `l` at position `start` or after. -/
def PartRecord.ownedFrom (l : LaneId) (start : Nat) : PartRecord → Bool
  | .bound l' _ j => decide (l' = l ∧ start ≤ j)
  | _ => false

/-- A release: every partition of lane `l` at position `start` or after becomes SCRUB (R46). -/
def Store.release (st : Store) (l : LaneId) (start : Nat) : Store :=
  { st with map := Vector.ofFn fun p =>
      if (st.map[p]).ownedFrom l start then .scrub else st.map[p] }

/-- The scrubber starts on the lowest-numbered SCRUB partition, or becomes idle (R47, R48). -/
def Store.startScrub (st : Store) : Store := { st with scrub := st.scrubParts.head? }

/-- The scrubber starts on the lowest-numbered SCRUB partition (R47, R49). -/
def State.startScrubber (s : State) : State := { s with store := s.store.startScrub }

/-- A scrub's completion: the partition is all zero and FREE (R48). -/
def Store.finishScrub (st : Store) (p : PartId) : Store :=
  { map := st.map.set p .free, coefs := st.coefs.set p zeroPartition, scrub := none }

/-- Every chain of a lane record, as it stands (R50). -/
def State.chains (s : State) (l : LaneId) : Chains :=
  Vector.ofFn fun r =>
    if (boundRefs (s.lane l)).contains r then s.store.readChain l r (tailOf (s.lane l)) else []

/-- Writes every chain of lane `l` from its head. -/
def State.writeChains (s : State) (l : LaneId) (cs : Chains) : State :=
  { s with store :=
      ((s.store.writeChain l 0 0 cs[0]).writeChain l 1 0 cs[1]).writeChain l 2 0 cs[2] }

/-- The SHIFT arithmetic on one chain: the new coefficient at tap `k` is the old one at tap
`k + delta`, or zero where the chain has no such tap (R106). -/
def shiftChain (chain : List Partition) (delta : Int) : List Partition :=
  (List.range chain.length).map fun j : Nat => Vector.ofFn fun o =>
    let k : Int := 256 * j + o.val + delta
    if 0 ≤ k ∧ k < 256 * chain.length then tapOf chain k.toNat else 0

/-! ## The Checkpoint Store (R131) -/

/-- The free slots, lowest-numbered first (R134). -/
def CheckpointStore.freeSlots (cs : CheckpointStore) : List SlotId :=
  (List.finRange 96).filter fun i => cs.free[i]

/-- Slots return to the free set (R131). -/
def CheckpointStore.freeAll (cs : CheckpointStore) : List SlotId → CheckpointStore
  | [] => cs
  | i :: is => ({ cs with free := cs.free.set i true }).freeAll is

/-- Slots are taken and written, each with the coefficients assigned to it (R134). -/
def CheckpointStore.writeAll (cs : CheckpointStore) : List (SlotId × Partition) → CheckpointStore
  | [] => cs
  | (i, x) :: rest =>
    ({ slots := cs.slots.set i x, free := cs.free.set i false } : CheckpointStore).writeAll rest

/-- The contents of an entry's slots, by bound reference in chain order (R130): empty for a reference
not bound. -/
def CheckpointStore.entryChains (cs : CheckpointStore) (refs : List RefId) (e : Checkpoint) :
    Chains :=
  Vector.ofFn fun r =>
    if refs.contains r then
      ((e.slots.drop (e.span * refs.idxOf r)).take e.span).map fun i => cs.slots[i]
    else []

/-! ## The Filter Engine's record and the Maintenance Queue (R58, R60, R61) -/

/-- The lane of a job. -/
def Job.lane : Job → LaneId
  | .pass inp _ => inp.lane
  | .save l _ _ _ => l
  | .restore l _ _ => l
  | .clear l => l
  | .shift l _ _ _ => l

/-- A job of lane `l` is in flight. -/
def State.jobInFlight (s : State) (l : LaneId) : Bool := s.engine.job.any fun j => j.lane == l

/-- A pass of lane `l` is in flight. -/
def State.passInFlight (s : State) (l : LaneId) : Bool :=
  match s.engine.job with
  | some (.pass inp _) => inp.lane == l
  | _ => false

/-- A CLEAR of lane `l` is in flight. -/
def State.clearInFlight (s : State) (l : LaneId) : Bool :=
  match s.engine.job with
  | some (.clear l') => l' == l
  | _ => false

/-- A SAVE or a RESTORE of lane `l` is in flight. -/
def State.checkpointJobInFlight (s : State) (l : LaneId) : Bool :=
  match s.engine.job with
  | some (.save l' _ _ _) => l' == l
  | some (.restore l' _ _) => l' == l
  | _ => false

/-- A SHIFT of reference `r` is in flight. -/
def State.shiftInFlight (s : State) (r : RefId) : Bool :=
  match s.engine.job with
  | some (.shift _ r' _ _) => r' == r
  | _ => false

/-- The entry is a SHIFT of reference `r`. -/
def MaintEntry.isShiftOf (r : RefId) (e : MaintEntry) : Bool :=
  match e.kind with
  | .shift r' _ => r' == r
  | _ => false

/-- The entry is a SHIFT. -/
def MaintEntry.isShift (e : MaintEntry) : Bool :=
  match e.kind with
  | .shift _ _ => true
  | _ => false

/-- An entry of lane `l` waits. -/
def State.anyWaiting (s : State) (l : LaneId) : Bool := s.engine.queue.any fun e => e.lane == l

/-- An entry of lane `l` and of kind `k` waits. -/
def State.waiting (s : State) (l : LaneId) (k : MaintKind) : Bool :=
  s.engine.queue.contains { kind := k, lane := l }

/-- A SHIFT of lane `l` and reference `r` waits. -/
def State.shiftWaiting (s : State) (l : LaneId) (r : RefId) : Bool :=
  s.engine.queue.any fun e => e.lane == l && e.isShiftOf r

/-- A SHIFT of lane `l` waits. -/
def State.anyShiftWaiting (s : State) (l : LaneId) : Bool :=
  s.engine.queue.any fun e => e.lane == l && e.isShift

/-- The SHIFT jobs of reference `r` queued or running (R111). -/
def State.shiftsOutstanding (s : State) (r : RefId) : Nat :=
  (s.engine.queue.filter fun e => e.isShiftOf r).length + (if s.shiftInFlight r then 1 else 0)

/-- Two entries have the same kind, lane and reference (R60). -/
def MaintEntry.sameAs (a b : MaintEntry) : Bool :=
  a.lane == b.lane &&
    match a.kind, b.kind with
    | .save, .save => true
    | .restore, .restore => true
    | .clear, .clear => true
    | .shift r _, .shift r' _ => r == r'
    | _, _ => false

/-- A maintenance request (R61). A request that repeats a waiting entry is dropped; one whose lane is
UNBOUND is not queued. The manual says a repeated SHIFT is not reached; it is dropped here (log 19). -/
def State.request (s : State) (l : LaneId) (k : MaintKind) : State :=
  let e : MaintEntry := { kind := k, lane := l }
  if (s.lane l).state = .unbound || s.engine.queue.any e.sameAs then s
  else { s with engine := { s.engine with queue := s.engine.queue ++ [e] } }

/-- A removal: the entries that satisfy `p` leave the queue; the others keep their order (R60). -/
def State.removeEntries (s : State) (p : MaintEntry → Bool) : State :=
  { s with engine := { s.engine with queue := s.engine.queue.filter fun e => !p e } }

/-- The engine becomes idle at a completion (R59). -/
def State.engineIdle (s : State) : State := { s with engine := { s.engine with job := none } }

end Sys2Proof.Machine
end

