-- ==== Sys2Proof/Machine/Realign.lean ====
section
/-! DEFINITION. Realign Control and the Delay Tracker (Chapter 6): committing a delay, ending a realign,
and what the tracker does with the frames and gaps handed to it. -/

namespace Sys2Proof.Machine

/-! ## Committing a delay (R103 to R105) -/

/-- The outcome of a commit, in the row order of R103. -/
inductive CommitOutcome where
  | pending
  | requested
  | atOnce
  | unchanged
  deriving DecidableEq, Repr

/-- The code of an outcome (R156). -/
def outcomeCode : CommitOutcome → Word
  | .pending => 0
  | .requested => 1
  | .atOnce => 2
  | .unchanged => 3

/-- The direction of a change from `old` to `new` (R104). -/
def directionOf (old new : Nat) : Direction := if old < new then .up else .down

/-- A proposal is hunting: the last change is present and its sign is the opposite direction (R104). -/
def hunting (x : Realign) (delay : Nat) : Bool :=
  match x.lastChange with
  | some (d, _) => decide (d ≠ directionOf x.target delay)
  | none => false

/-- One SHIFT request for each bound lane, in ascending lane order, with Δ the new D less the lane's
applied delay (R105). -/
def State.requestShifts (s : State) (r : RefId) (delay : Nat) : List LaneId → State
  | [] => s
  | l :: ls =>
    (s.request l (.shift r ((delay : Int) - (delayOf (s.lane l) r : Int)))).requestShifts r delay ls

/-- A proposal that the hunting check lets pass (R105). -/
def State.setTarget (s : State) (r : RefId) (delay : Nat) : State × CommitOutcome :=
  let x := s.realign r
  let lanes := s.lanesBoundTo r
  let x' : Realign :=
    { x with target := delay, lastChange := some (directionOf x.target delay, s.epoch) }
  if lanes = [] then ((s.setRealign r x').raiseRef .delaySet r, .atOnce)
  else ((s.setRealign r { x' with state := .shifting }).requestShifts r delay lanes, .requested)

/-- A proposal committed while the realign is IDLE (R103, R104, R105). -/
def State.commitIdle (s : State) (r : RefId) (delay : Nat) (origin : Origin) :
    State × CommitOutcome :=
  let x := s.realign r
  if delay = x.target then (s, .unchanged)
  else if origin = .tracker ∧ hunting x delay then
    ((s.setRealign r { x with hold := 256 }).raiseRef .delayHunt r, .unchanged)
  else s.setTarget r delay

/-- A proposal is committed: it becomes the pending proposal while SHIFTING, and otherwise it is
committed at once (R103). -/
def State.commit (s : State) (r : RefId) (delay : Nat) (origin : Origin) : State × CommitOutcome :=
  let x := s.realign r
  match x.state with
  | .shifting => (s.setRealign r { x with proposal := some (delay, origin) }, .pending)
  | .idle => s.commitIdle r delay origin

/-- The end of a realign: IDLE, DELAY_SET, and the pending proposal committed (R107). -/
def State.endRealign (s : State) (r : RefId) : State :=
  let x := s.realign r
  let s := (s.setRealign r { x with state := .idle, proposal := none }).raiseRef .delaySet r
  match x.proposal with
  | some (delay, origin) => (s.commitIdle r delay origin).1
  | none => s

/-- The realign of `r` ends if no SHIFT of `r` is queued or running any more (R107, R108). -/
def State.endRealignIfDone (s : State) (r : RefId) : State :=
  if (s.realign r).state = .shifting ∧ s.shiftsOutstanding r = 0 then s.endRealign r else s

/-- What Realign Control does for a lane that no longer awaits a SHIFT of each of `rs` (R108). -/
def State.endRealigns (s : State) : List RefId → State
  | [] => s
  | r :: rs => (s.endRealignIfDone r).endRealigns rs

/-! ## The tracker's record (R96 to R100) -/

/-- The tracker becomes DISARMED with quiet count 0 and no record (R97 to R100). -/
def disarm (t : Tracker) : Tracker := { t with state := .disarmed, quietCount := 0, onset := none }

/-- The tracker's progress is discarded, unless it is OFF (R100). -/
def discardProgress (t : Tracker) : Tracker := if t.state = .off then t else disarm t

/-- The first offset whose sample satisfies `p`, from sample 0 upward. -/
def firstSample (f : Frame) (p : Fin 128 → Sample → Bool) : Option (Fin 128) :=
  (List.finRange 128).find? fun i => p i f[i]

/-- A DISARMED tracker counts quiet frames and gaps toward q (R96). -/
def countQuiet (t : Tracker) (peak : Nat) : Tracker :=
  if peak < t.quietLevel then
    let n := min 15 (t.quietCount + 1)
    if t.quietNeed ≤ n then { t with state := .armed, quietCount := n } else { t with quietCount := n }
  else { t with quietCount := 0 }

/-- An ARMED tracker scans a reference frame for an onset (R97). -/
def scanReference (t : Tracker) (e : Epoch) (f : Frame) (peak : Nat) : Tracker :=
  match firstSample f fun _ x => decide (t.refLevel ≤ x.toInt.natAbs) with
  | some i =>
    { t with state := .opened, onset := some { index := sampleIndex e i.val, epoch := e } }
  | none => if t.quietLevel ≤ peak then disarm t else t

/-- The history hands the tracker an accepted frame, or a gap as a frame of zero samples with peak 0
(section 6.3, R96, R97). -/
def trackReference (t : Tracker) (e : Epoch) (f : Frame) (peak : Nat) : Tracker :=
  match t.state with
  | .off => t
  | .disarmed => countQuiet t peak
  | .armed => scanReference t e f peak
  | .opened => t

/-! ## Microphone onsets and proposals (R98, R101) -/

/-- The lag of sample `j` of the frame of epoch `f` from an onset: a signed difference modulo 8388608
(R98). -/
def lagOf (o : Onset) (f : Epoch) (j : Nat) : Int := (sampleIndex f j - o.index).toInt

/-- A lag joins the list at the newest end; the oldest leaves a list of 4 (R101). -/
def pushLag (lags : List Nat) (lag : Nat) : List Nat :=
  (if Config.lagDepth ≤ lags.length then lags.drop 1 else lags) ++ [lag]

/-- The largest of three. -/
def max3 (a b c : Nat) : Nat := max a (max b c)

/-- The smallest of three. -/
def min3 (a b c : Nat) : Nat := min a (min b c)

/-- The middle value of three (R101). -/
def median3 (a b c : Nat) : Nat := a + b + c - max3 a b c - min3 a b c

/-- The proposed delay: the median of the newest three lags less the guard, clamped to 0 to 1023, when
the three agree within the tolerance (R101). -/
def proposalOf (t : Tracker) : Option Nat :=
  match t.lags.reverse with
  | c :: b :: a :: _ =>
    if max3 a b c - min3 a b c ≤ t.tolerance then some (min 1023 (median3 a b c - t.guard)) else none
  | _ => none

/-- A proposal is handed to commit when it differs from D by more than the tolerance and the hold
countdown is 0; otherwise it is dropped (R101). -/
def State.propose (s : State) (r : RefId) : State :=
  let t := s.tracker r
  let x := s.realign r
  match proposalOf t with
  | some delay =>
    if t.tolerance < ((delay : Int) - (x.target : Int)).natAbs ∧ x.hold = 0 then
      (s.commit r delay .tracker).1
    else s
  | none => s

/-- The outcome of scanning a pilot lane frame (R98). -/
inductive ScanOutcome where
  | found (lag : Nat)
  | missed
  | goOn
  deriving DecidableEq, Repr

/-- The scan of a frame of epoch `f` against an onset (R98). -/
def scanMicrophone (t : Tracker) (o : Onset) (f : Epoch) (x : Frame) : ScanOutcome :=
  match firstSample x fun j v =>
      decide (0 ≤ lagOf o f j.val ∧ lagOf o f j.val ≤ 1151 ∧ t.micLevel ≤ v.toInt.natAbs) with
  | some j => .found (lagOf o f j.val).toNat
  | none => if 1152 ≤ lagOf o f 127 then .missed else .goOn

/-- A frame of the pilot lane is handed to the tracker of `r` (R98). -/
def State.trackMicrophone (s : State) (r : RefId) (f : Epoch) (x : Frame) : State :=
  let t := s.tracker r
  match t.state, t.onset with
  | .opened, some o =>
    if isAfter o.epoch f then s
    else
      match scanMicrophone t o f x with
      | .found lag =>
        let t' := { disarm t with lags := pushLag t.lags lag, matchCount := countUp t.matchCount 1 }
        (s.setTracker r t').propose r
      | .missed => s.setTracker r { disarm t with missCount := countUp t.missCount 1 }
      | .goOn => s
  | _, _ => s

/-- A frame that lane `l` consumes is handed to the tracker of every reference whose pilot lane is `l`
(R25, R66), in ascending reference order (log 11). -/
def State.handToTrackers (s : State) (l : LaneId) (f : InFrame) : List RefId → State
  | [] => s
  | r :: rs =>
    (if (s.tracker r).pilot = l then s.trackMicrophone r f.epoch f.samples else s).handToTrackers l f
      rs

/-- A record too old closes as a miss (R99). -/
def ageOnset (t : Tracker) (now : Epoch) : Tracker :=
  match t.state, t.onset with
  | .opened, some o =>
    if 40 < behind now o.epoch then { disarm t with missCount := countUp t.missCount 1 } else t
  | _, _ => t

end Sys2Proof.Machine
end

