-- ==== Sys2Proof/Machine/Rings.lean ====
section
/-! DEFINITION. The Reference History's operations (Chapter 1): the reading rule, the window reads,
accepting a frame, recording gaps and resolving epochs. -/

namespace Sys2Proof.Machine

/-! ## Reading (R4, R5, R18) -/

/-- The slot of epoch `p`. -/
def slotFor (x : Reference) (p : Epoch) : Slot := x.ring[slotOf p]

/-- The slot of epoch `p` records `p` with fill DATA: what the reading rule asks (R4). -/
def holdsData (x : Reference) (p : Epoch) : Bool :=
  decide ((slotFor x p).epoch = p ∧ (slotFor x p).fill = .data)

/-- The slot of epoch `p` records `p` with fill GAP. -/
def holdsGap (x : Reference) (p : Epoch) : Bool :=
  decide ((slotFor x p).epoch = p ∧ (slotFor x p).fill = .gap)

/-- The history sample with absolute index `n`, by the reading rule (R4). -/
def readSample (x : Reference) (n : SampleIndex) : Int :=
  if holdsData x (indexEpoch n) then ((slotFor x (indexEpoch n)).samples[indexOffset n]).toInt else 0

/-- The peak of epoch `p`, by the reading rule (R4). -/
def readPeak (x : Reference) (p : Epoch) : Nat := if holdsData x p then (slotFor x p).peak else 0

/-- The energy of epoch `p`, by the reading rule (R4). -/
def readEnergy (x : Reference) (p : Epoch) : Nat :=
  if holdsData x p then (slotFor x p).energy else 0

/-- The peak maximum of the `n` epochs that end with epoch `last` (R5). -/
def peakMaximum (x : Reference) (last : Epoch) (n : Nat) : Nat :=
  ((List.range n).map fun i : Nat => readPeak x (epochPlus last (-(i : Int)))).foldl max 0

/-- The energy sum of the four epochs that end with epoch `last` (R5). -/
def energySum (x : Reference) (last : Epoch) : Nat :=
  ((List.range 4).map fun i : Nat => readEnergy x (epochPlus last (-(i : Int)))).sum

/-- The stored sample at ring address `a`, whatever its slot's epoch and fill (R18, R19). -/
def ringSample (x : Reference) (a : Nat) : Sample :=
  (x.ring[(⟨a / 128 % 128, Nat.mod_lt _ (by decide)⟩ : Fin 128)]).samples[
    (⟨a % 128, Nat.mod_lt _ (by decide)⟩ : Fin 128)]

/-- The slot of ring address `a` (R18). -/
def ringSlot (x : Reference) (a : Nat) : Slot :=
  x.ring[(⟨a / 128 % 128, Nat.mod_lt _ (by decide)⟩ : Fin 128)]

/-! ## Activation and deactivation (R8, R9) -/

/-- Every slot's fill becomes NONE; the slot's other fields keep their values (R3). -/
def clearFills (ring : Vector Slot 128) : Vector Slot 128 :=
  Vector.ofFn fun i => { ring[i] with fill := .none }

/-- An INACTIVE reference activated at epoch `now` (R8). -/
def activate (x : Reference) (now : Epoch) : Reference :=
  { x with
    state := .active, ring := clearFills x.ring, resolution := some now, newest := none,
    consecutiveGaps := 0, continuous := 0 }

/-- A reference deactivated (R9). -/
def deactivate (x : Reference) : Reference :=
  { x with state := .inactive, ring := clearFills x.ring, resolution := none, newest := none }

/-! ## Accepting a frame (R10, R11, R14) -/

/-- `e` is before the resolution point. -/
def beforeResolution (x : Reference) (e : Epoch) : Bool :=
  match x.resolution with
  | some n => isAfter n e
  | none => false

/-- The newest DATA epoch after a frame of epoch `e` (R11). -/
def newestAfter (x : Reference) (e : Epoch) : Epoch :=
  match x.newest with
  | some n => if isAfter e n then e else n
  | none => e

/-- An accepted frame written into its slot and counted (R11, R14). -/
def acceptFrame (x : Reference) (e : Epoch) (f : Frame) : Reference :=
  { x with
    state := if x.state = .stalled then .active else x.state
    ring := x.ring.set (slotOf e)
      { epoch := e, fill := .data, samples := f, peak := peakOf f, energy := energyOf f }
    consecutiveGaps := 0
    continuous := min 255 (x.continuous + 1)
    newest := some (newestAfter x e) }

/-- An accepted REF FRAME: the write, REF_RESUME for a STALLED reference, and the tracker's scan (R11,
R14). -/
def State.acceptReference (s : State) (r : RefId) (e : Epoch) (f : Frame) : State :=
  let x := s.ref r
  let s1 := s.setRef r (acceptFrame x e f)
  let s2 := if x.state = .stalled then s1.raiseRef .refResume r else s1
  s2.setTracker r (trackReference (s2.tracker r) e f (peakOf f))

/-! ## Gaps and resolution (R12, R13) -/

/-- A gap of epoch `p` recorded in the reference's record (R12). -/
def recordGap (x : Reference) (p : Epoch) : Reference :=
  { x with
    ring := x.ring.set (slotOf p)
      { epoch := p, fill := .gap, samples := silence, peak := 0, energy := 0 }
    totalGaps := countUp x.totalGaps 1
    consecutiveGaps := min 4 (x.consecutiveGaps + 1)
    continuous := 0 }

/-- A gap recorded: it is handed to the tracker, and then the fourth in a row stalls an ACTIVE reference
(R12, R13, R100). -/
def State.gap (s : State) (r : RefId) (p : Epoch) : State :=
  let x := recordGap (s.ref r) p
  let t := trackReference (s.tracker r) p silence 0
  if x.state = .active ∧ x.consecutiveGaps = 4 then
    ((s.setRef r { x with state := .stalled }).setTracker r (discardProgress t)).raiseRef .refStall r
  else (s.setRef r x).setTracker r t

/-- One epoch resolved (R12). -/
def State.resolveOne (s : State) (r : RefId) (p : Epoch) : State :=
  if holdsData (s.ref r) p then s else s.gap r p

/-- The `n` epochs from `p` on resolved, oldest first (R12). -/
def State.resolveFrom (s : State) (r : RefId) : Nat → Epoch → State
  | 0, _ => s
  | n + 1, p => (s.resolveOne r p).resolveFrom r n (p + 1)

/-- The resolution of a reference at an advance: the epochs from N up to E − W, and N moved to
E − W + 1 (R12). -/
def State.resolve (s : State) (r : RefId) : State :=
  let x := s.ref r
  match x.state, x.resolution with
  | .inactive, _ => s
  | _, none => s
  | _, some n =>
    let last := epochPlus s.epoch (-(x.wait : Int))
    if isAfter n last then s
    else
      let s' := s.resolveFrom r ((last - n).toNat + 1) n
      s'.setRef r { s'.ref r with resolution := some (last + 1) }

end Sys2Proof.Machine
end

