-- ==== Sys2Proof/Machine/LaneOps.lean ====
section
/-! DEFINITION. The Lane Table's operations (Chapter 2): inserting output frames, passing frames
through, and the lane records that BIND, UNBIND and RESET LANE leave. -/

namespace Sys2Proof.Machine

/-- An output frame inserted at the tail of the output queue. A full queue first loses its oldest frame,
counted and raised as OUTPUT_OVERRUN (R26). -/
def State.insertOutput (s : State) (l : LaneId) (f : OutFrame) : State :=
  let x := s.lane l
  if Config.queueDepth ≤ x.output.length then
    (s.setLane l { x with
      output := x.output.drop 1 ++ [f]
      counters := { x.counters with overruns := countUp x.counters.overruns 1 } }).raiseLane
        .outputOverrun l
  else s.setLane l { x with output := x.output ++ [f] }

/-- The PASSTHROUGH frame made of a microphone frame outside a pass (R25). -/
def passThrough (f : InFrame) : OutFrame :=
  { epoch := f.epoch, kind := .passthrough, talk := none, gated := false, samples := f.samples }

/-- A frame passed through outside a pass: inserted, and handed to the trackers that the lane pilots
(R25). -/
def State.passFrame (s : State) (l : LaneId) (f : InFrame) : State :=
  (s.insertOutput l (passThrough f)).handToTrackers l f allRefs

/-- Frames passed through, oldest first (R29). -/
def State.passFrames (s : State) (l : LaneId) : List InFrame → State
  | [] => s
  | f :: fs => (s.passFrame l f).passFrames l fs

/-- Every frame of the input queue is passed through, and the queue is left empty (R29, R32). -/
def State.flush (s : State) (l : LaneId) : State :=
  (s.setLane l { s.lane l with input := [] }).passFrames l (s.lane l).input

/-- The applied delays that BIND gives: the target delay of each named reference (R34). -/
def State.targetDelays (s : State) (refs : RefSet) : Vector (Option Nat) 3 :=
  Vector.ofFn fun r => if (refsOf refs).contains r then some (s.realign r).target else none

/-- The lane record that BIND leaves (R34, R80, R83, R112, R122). -/
def State.boundLane (s : State) (refs : RefSet) (tail : Nat) : Lane :=
  { Lane.reset with
    state := .bypass, refs := some refs, tail := some tail, delays := s.targetDelays refs }

/-- The guard's trip count becomes 0 and a running retry countdown is cancelled (R32, R35). -/
def endRetry (g : Guard) : Guard := { g with tripCount := 0, retry := none }

/-- The lane record that UNBIND leaves (R35, R122). -/
def unboundLane (x : Lane) : Lane :=
  { x with
    state := .unbound, refs := none, tail := none, delays := Vector.replicate 3 none, input := [],
    output := [], lastAccepted := none, freeze := none, guard := { endRetry x.guard with stack := [] } }

/-- The talk-state fields after RESET LANE: the parameters are kept (R83). -/
def resetTalk (t : Talk) : Talk := { t with state := .quiet, hangover := 0, last := none }

/-- The meter fields after RESET LANE: the parameters are kept, and the window code becomes w (R112). -/
def resetMeter (m : Meter) : Meter :=
  { m with
    recent := none, windowCode := m.window, windowCount := 0, sumM := 0, sumO := 0, latched := none,
    latches := 0 }

/-- The guard fields after RESET LANE (R122). -/
def resetGuard (g : Guard) : Guard :=
  { endRetry g with divergence := 0, totalTrips := 0 }

/-- The lane record that RESET LANE leaves, with the applied delays given (R37). -/
def clearingLane (x : Lane) (delays : Vector (Option Nat) 3) : Lane :=
  { x with
    state := .clearing, delays := delays, input := [], output := [], lastAccepted := none,
    cursor := 0, freeze := none, lock := false, talk := resetTalk x.talk, meter := resetMeter x.meter,
    guard := resetGuard x.guard, counters := LaneCounters.reset }

/-- The references of lane `l` whose SHIFT waits, in ascending order (R37, R35). -/
def State.shiftingRefs (s : State) (l : LaneId) : List RefId :=
  allRefs.filter fun r => s.shiftWaiting l r

/-- The applied delays after RESET LANE: the target delay for each bound reference whose SHIFT was
removed (R37). -/
def State.resetDelays (s : State) (l : LaneId) : Vector (Option Nat) 3 :=
  Vector.ofFn fun r =>
    if (s.shiftingRefs l).contains r then some (s.realign r).target else (s.lane l).delays[r]

/-- Every checkpoint entry of the lane is deleted and its slots return to the free set (R35, R136). -/
def freeStack (cs : CheckpointStore) (stack : List Checkpoint) : CheckpointStore :=
  cs.freeAll (stack.flatMap fun e => e.slots)

end Sys2Proof.Machine
end

