-- ==== Sys2Proof/Machine/PassMath.lean ====
section
/-! DEFINITION. What a pass computes from the inputs fixed at its start: the echo estimate and the error
(R70, R71), the talk state (R84 to R87), the divergence verdict (R123), which chains adapt (R73), the
grant and the cursor (R78, R79), the update (R74, R75) and the output frame (R76, R118). -/

namespace Sys2Proof.Machine

/-! ## Inputs -/

/-- The epoch e of the pass's frame. -/
def PassInputs.epoch (i : PassInputs) : Epoch := i.frame.epoch

/-- The lane's bound references, ascending. -/
def PassInputs.bound (i : PassInputs) : List RefId := boundRefs i.record

/-- The lane's tail T. -/
def PassInputs.tail (i : PassInputs) : Nat := tailOf i.record

/-- The lane's applied delay d for `r`. -/
def PassInputs.delay (i : PassInputs) (r : RefId) : Nat := delayOf i.record r

/-- The lane was RUN at pass start. -/
def PassInputs.wasRun (i : PassInputs) : Bool := i.record.state == .run

/-- Microphone sample m(n). -/
def PassInputs.mic (i : PassInputs) (n : Fin 128) : Int := (i.frame.samples[n]).toInt

/-- The history sample of `r` at index 128e + n − d − k (R70, R75). -/
def PassInputs.history (i : PassInputs) (r : RefId) (n k : Nat) : Int :=
  readSample i.refs[r] (sampleIndex i.epoch ((n : Int) - (i.delay r : Int) - (k : Int)))

/-! ## Echo estimate and error (R70, R71) -/

/-- The sum of `f` over 0 to `n − 1`. -/
def sumTo (n : Nat) (f : Nat → Int) : Int := ((List.range n).map f).sum

/-- The echo accumulator of sample `n` (R70). -/
def PassInputs.accumulator (i : PassInputs) (n : Nat) : Int :=
  (i.bound.map fun r =>
    sumTo (256 * i.tail) fun k => (tapOf i.chains[r] k).toInt * i.history r n k).sum

/-- The echo estimate y(n) (R70). -/
def PassInputs.echo (i : PassInputs) (n : Nat) : Int := saturate16 (roundShift (i.accumulator n) 22)

/-- The error before saturation. -/
def PassInputs.rawError (i : PassInputs) (n : Fin 128) : Int := i.mic n - i.echo n.val

/-- The error samples ε (R71). -/
def PassInputs.errors (i : PassInputs) : Frame :=
  Vector.ofFn fun n => BitVec.ofInt 16 (saturate16 (i.rawError n))

/-- The error samples that saturation changes (R71). -/
def PassInputs.errorSats (i : PassInputs) : Nat :=
  ((List.finRange 128).filter fun n => saturate16 (i.rawError n) ≠ i.rawError n).length

/-- Em (R71). -/
def PassInputs.micEnergy (i : PassInputs) : Nat := energyOf i.frame.samples

/-- Eo, of given error samples (R71). -/
def outEnergy (err : Frame) : Nat := energyOf err

/-! ## Talk state (R84 to R87) -/

/-- The epochs that a delay reaches back beyond the frame: (d + 126) divided by 128 (R73, R85). -/
def reachOf (d : Nat) : Nat := (d + 126) / 128

/-- The base epoch s0 of `r`: e less d divided by 128 (R74, R85). -/
def PassInputs.baseEpoch (i : PassInputs) (r : RefId) : Epoch :=
  epochPlus i.epoch (-((i.delay r / 128 : Nat) : Int))

/-- The window peak of `r`: epochs e − 2T − reach to s0, inclusive (R85). -/
def PassInputs.windowPeak (i : PassInputs) (r : RefId) : Nat :=
  peakMaximum i.refs[r] (i.baseEpoch r)
    (2 * i.tail + reachOf (i.delay r) - i.delay r / 128 + 1)

/-- Rp (R85). An INACTIVE reference contributes nothing. -/
def PassInputs.refPeak (i : PassInputs) : Nat :=
  ((i.bound.filter fun r => (i.refs[r]).state ≠ .inactive).map fun r => i.windowPeak r).foldl max 0

/-- The two verdicts of R86 on two peaks. -/
def detect (t : Talk) (mp rp : Nat) : Detection :=
  let active := decide (t.farFloor ≤ rp)
  { micPeak := mp, refPeak := rp, farActive := active
    detected := active && decide (t.threshold * rp ≤ 16 * mp) }

/-- The talk state and hangover count after a frame (R87). -/
def classify (t : Talk) (d : Detection) : TalkState × Nat :=
  if d.detected then (.double, t.hang)
  else if t.state = .double ∧ 0 < t.hangover then (.double, t.hangover - 1)
  else if d.farActive then (.far, 0)
  else if t.nearFloor ≤ d.micPeak then (.near, 0)
  else (.quiet, 0)

/-- The pass's measurements (R84 to R86). -/
def PassInputs.detection (i : PassInputs) : Detection :=
  detect i.record.talk (peakOf i.frame.samples) i.refPeak

/-- The pass's talk state and hangover count (R87). -/
def PassInputs.talk (i : PassInputs) : TalkState × Nat := classify i.record.talk i.detection

/-! ## Divergence verdict (R123) -/

/-- A divergence verdict (R123). -/
inductive Verdict where
  | unchanged
  | clear
  | raise (count : Nat)
  | trip
  deriving DecidableEq, Repr

/-- The verdict on a frame of talk state `t` with energies `em` and `eo` (R123). -/
def judge (g : Guard) (t : TalkState) (em eo : Nat) : Verdict :=
  match t with
  | .quiet => .unchanged
  | .near => .unchanged
  | .far | .double =>
    if diverging em eo g.margin then
      if g.divergence + 1 < g.hold then .raise (g.divergence + 1) else .trip
    else .clear

/-- The pass's verdict: none is formed for a lane that was not RUN (R72, R123). -/
def PassInputs.verdict (i : PassInputs) (err : Frame) : Verdict :=
  if i.wasRun then judge i.record.guard i.talk.1 i.micEnergy (outEnergy err) else .unchanged

/-! ## Which chains adapt (R73) -/

/-- The lane's span for `r` (R73). -/
def PassInputs.span (i : PassInputs) (r : RefId) : Nat := 2 * i.tail + reachOf (i.delay r) + 1

/-- The first failing condition of rows 1 to 6 of R73, or adapting. -/
def PassInputs.eligibility (i : PassInputs) (r : RefId) : Freeze :=
  if !i.wasRun then .mode
  else if i.record.step = 0 then .stepZero
  else if (i.refs[r]).state = .inactive then .refInactive
  else if (i.refs[r]).state = .stalled then .refStalled
  else if (i.refs[r]).continuous < i.span r then .refill
  else if i.talk.1 ≠ .far then .talk
  else .adapting

/-- The references whose chains meet conditions 1 to 6 of R73, ascending. -/
def PassInputs.adapting (i : PassInputs) : List RefId :=
  i.bound.filter fun r => i.eligibility r = .adapting

/-! ## Grant and cursor (R78, R79) -/

/-- The effective quota (R78). -/
def effectiveQuota (locked : Bool) (quota : Nat) : Nat := if locked then quota else min 16 (2 * quota)

/-- The grant, from the budget that remains (R78). -/
def PassInputs.grantFrom (i : PassInputs) (budget : Nat) : Nat :=
  min (effectiveQuota i.record.lock i.record.quota) (min budget (i.tail * i.adapting.length))

/-- The reference and chain position of position `p` of the lane's cyclic sequence (R79). -/
def PassInputs.place (i : PassInputs) (p : Nat) : Option (RefId × Nat) :=
  (i.bound[p / i.tail]?).map fun r => (r, p % i.tail)

/-- The positions of the cyclic sequence from the cursor on, once round (R79). -/
def cyclic (total cursor : Nat) : List Nat := (List.range total).map fun n => (cursor + n) % total

/-- Position `p` belongs to a chain that adapts. -/
def PassInputs.adapts (i : PassInputs) (p : Nat) : Bool :=
  match i.place p with
  | some (r, _) => i.adapting.contains r
  | none => false

/-- The number of positions of the cyclic sequence: T × n (R79). -/
def PassInputs.positions (i : PassInputs) : Nat := i.tail * i.bound.length

/-- The positions selected under a grant (R79). -/
def PassInputs.selected (i : PassInputs) (grant : Nat) : List Nat :=
  ((cyclic i.positions i.record.cursor).filter fun p => i.adapts p).take grant

/-- The cursor after the selection: the position after the last one selected (R79). -/
def PassInputs.cursorAfter (i : PassInputs) (grant : Nat) : Nat :=
  match (i.selected grant).getLast? with
  | some p => (p + 1) % i.positions
  | none => i.record.cursor

/-! ## The update (R74, R75) -/

/-- The power P of the adapting references (R74). -/
def PassInputs.power (i : PassInputs) : Nat :=
  (i.adapting.map fun r => energySum i.refs[r] (i.baseEpoch r)).sum

/-- The normalization b (R74). -/
def PassInputs.normalization (i : PassInputs) : Nat := bitLength (i.power + 2 ^ i.record.regularize)

/-- The gradient G(k) of `r`'s chain (R75). -/
def PassInputs.gradient (i : PassInputs) (err : Frame) (r : RefId) (k : Nat) : Int :=
  ((List.finRange 128).map fun n => (err[n]).toInt * i.history r n.val k).sum

/-- The updated value of tap `k` of `r`'s chain before saturation (R75). -/
def PassInputs.rawUpdate (i : PassInputs) (err : Frame) (r : RefId) (k : Nat) : Int :=
  (tapOf i.chains[r] k).toInt
    + roundShift ((i.record.step : Int) * i.gradient err r k) (i.normalization - 14)

/-- One partition's update: where it lands, its new coefficients, and how many were clamped (R75). -/
structure Update where
  ref      : RefId
  position : Nat
  coefs    : Partition
  sats     : Nat
  deriving DecidableEq, Repr

/-- The update of the partition at chain position `j` of `r` (R75). -/
def PassInputs.update (i : PassInputs) (err : Frame) (r : RefId) (j : Nat) : Update :=
  let raw : Vector Int 256 := Vector.ofFn fun o => i.rawUpdate err r (256 * j + o.val)
  { ref := r, position := j
    coefs := Vector.ofFn fun o => BitVec.ofInt 24 (saturate24 raw[o])
    sats := (raw.toList.filter fun v => saturate24 v ≠ v).length }

/-- The updates of the selected partitions; none for a pass whose verdict is a trip (R72, R75). -/
def PassInputs.updates (i : PassInputs) (err : Frame) (grant : Nat) (tripping : Bool) :
    List Update :=
  if tripping then []
  else (i.selected grant).filterMap fun p => (i.place p).map fun q => i.update err q.1 q.2

/-! ## The output frame (R76, R118) and the results -/

/-- The residual gate acts: a FAR frame of a lane that was RUN and locked at pass start (R76). -/
def PassInputs.gates (i : PassInputs) : Bool := i.wasRun && i.record.lock && (i.talk.1 == .far)

/-- A gated sample (R118). -/
def gateSample (depth : Nat) (x : Sample) : Sample := BitVec.ofInt 16 (roundShift x.toInt depth)

/-- The output frame of the pass: PASSTHROUGH when it trips, and otherwise the error samples, gated
where the gate acts (R72, R76, R118). -/
def PassInputs.outFrame (i : PassInputs) (err : Frame) (tripping : Bool) : OutFrame :=
  if tripping then
    { epoch := i.epoch, kind := .passthrough, talk := some i.talk.1, gated := false
      samples := i.frame.samples }
  else if i.gates then
    { epoch := i.epoch, kind := .cancelled, talk := some i.talk.1, gated := true
      samples := Vector.ofFn fun n => gateSample i.record.meter.gateDepth err[n] }
  else
    { epoch := i.epoch, kind := .cancelled, talk := some i.talk.1, gated := false, samples := err }

/-- The results of a pass, which take effect at its completion (R66, R68). -/
structure PassResults where
  detection : Detection
  talk      : TalkState
  hangover  : Nat
  micEnergy : Nat
  outEnergy : Nat
  verdict   : Verdict
  freeze    : Vector (Option Freeze) 3
  updates   : List Update
  cursor    : Nat
  errorSats : Nat
  output    : OutFrame
  deriving DecidableEq, Repr

/-- The freeze reason of each bound reference, as conditions 1 to 6 or a trip give it (R72, R73). -/
def PassInputs.freezes (i : PassInputs) (tripping : Bool) : Vector (Option Freeze) 3 :=
  Vector.ofFn fun r =>
    if i.bound.contains r then some (if tripping then .mode else i.eligibility r) else none

/-- What the pass computes from its inputs and its grant (section 4.5). -/
def PassInputs.results (i : PassInputs) (grant : Nat) : PassResults :=
  let err := i.errors
  let verdict := i.verdict err
  let tripping := verdict == .trip
  { detection := i.detection, talk := i.talk.1, hangover := i.talk.2
    micEnergy := i.micEnergy, outEnergy := outEnergy err, verdict := verdict
    freeze := i.freezes tripping, updates := i.updates err grant tripping
    cursor := if tripping then i.record.cursor else i.cursorAfter grant
    errorSats := i.errorSats, output := i.outFrame err tripping }

end Sys2Proof.Machine
end

