-- ==== Sys2Proof/Machine/Jobs.lean ====
section
/-! DEFINITION. The Filter Engine's jobs (Chapters 3, 4, 7 and 8): readiness and the arbiter's choice
(R62 to R64), the start of each job (R66, R59), and its completion (R68, R51, R107, R134, R135) with
the meter and the guard acting on a pass (R113 to R116, R124 to R127, R132). -/

namespace Sys2Proof.Machine

/-! ## Readiness and the arbiter (R63, R64) -/

/-- Condition 4 of R63 for one bound reference: not ACTIVE, or its slot holds the epoch's DATA or GAP,
or the epoch is W or more behind E. -/
def refReady (x : Reference) (now e : Epoch) : Bool :=
  decide (x.state ≠ .active) || holdsData x e || holdsGap x e || decide ((x.wait : Int) ≤ behind now e)

/-- The epoch of the lane's head frame. -/
def headEpoch (x : Lane) : Option Epoch := x.input.head?.map fun f => f.epoch

/-- The lane runs passes (R21). -/
def runsPasses (st : LaneState) : Bool := st == .run || st == .tripped

/-- Lane `l` is ready (R63). -/
def State.ready (s : State) (l : LaneId) : Bool :=
  let x := s.lane l
  match headEpoch x with
  | none => false
  | some e =>
    runsPasses x.state && !s.jobInFlight l && !s.anyWaiting l
      && (boundRefs x).all fun r => refReady (s.ref r) s.epoch e

/-- The ready lanes, ascending. -/
def State.readyLanes (s : State) : List LaneId := allLanes.filter fun l => s.ready l

/-- How far the lane's head frame is behind E. -/
def State.headAge (s : State) (l : LaneId) : Int :=
  match headEpoch (s.lane l) with
  | some e => behind s.epoch e
  | none => 0

/-- The lane with the oldest head frame, the first of the list among equals (R64). -/
def State.oldest (s : State) : List LaneId → Option LaneId
  | [] => none
  | l :: ls =>
    match s.oldest ls with
    | none => some l
    | some k => if s.headAge l < s.headAge k then some k else some l

/-- What a pass of lane `l` of frame `f` fixes at its start (R66). -/
def State.passInputs (s : State) (l : LaneId) (f : InFrame) : PassInputs :=
  { lane := l, frame := f, record := s.lane l, refs := s.refs, chains := s.chains l }

/-- A pass of lane `l` starts: the head frame moves in flight, the inputs are fixed, the grant is taken
from the budget, and the trackers that `l` pilots scan the frame (R66, R77, R78). -/
def State.startPass (s : State) (l : LaneId) : State :=
  match (s.lane l).input with
  | [] => s
  | f :: rest =>
    let inputs := s.passInputs l f
    let grant := inputs.grantFrom s.engine.budget
    let s1 := s.setLane l { s.lane l with input := rest, inFlight := some f }
    ({ s1 with engine := { s1.engine with
        job := some (.pass inputs grant), budget := s1.engine.budget - grant } }).handToTrackers
      l f allRefs

/-- What a maintenance entry reads as it starts (R50, R59, R106, R134, R135). -/
def State.jobOf (s : State) (e : MaintEntry) : Job :=
  let x := s.lane e.lane
  match e.kind with
  | .save => .save e.lane x (s.chains e.lane) s.epoch
  | .restore =>
    .restore e.lane x
      (match x.guard.stack with
       | [] => Vector.replicate 3 []
       | c :: _ => s.checkpoints.entryChains (boundRefs x) c)
  | .clear => .clear e.lane
  | .shift r d => .shift e.lane r d (s.store.readChain e.lane r (tailOf x))

/-- The oldest maintenance entry starts, if one waits (R64). -/
def State.startMaintenance (s : State) : State :=
  match s.engine.queue with
  | [] => s
  | e :: rest => { s with engine := { s.engine with job := some (s.jobOf e), queue := rest } }

/-- A pass of the ready lane with the oldest head frame starts, if a lane is ready (R64). -/
def State.startOldestPass (s : State) : State :=
  match s.oldest s.readyLanes with
  | none => s
  | some l => s.startPass l

/-- The arbiter chooses: the oldest maintenance entry, otherwise the oldest ready pass (R64). -/
def State.arbitrate (s : State) : State :=
  if s.engine.job.isSome then s
  else if s.engine.queue = [] then s.startOldestPass
  else s.startMaintenance

/-! ## The meter at a pass's completion (R113 to R116, R132) -/

/-- The recent values of a completed pass (R113). -/
def meterRecent (m : Meter) (em eo : Nat) : Meter :=
  { m with recent := some { mic := em, out := eo, steps := lossSteps em eo } }

/-- A FAR frame added to the window, which restarts first if the pass's window differs from the window
code (R114). -/
def meterAdd (m : Meter) (w em eo : Nat) : Meter :=
  if w = m.windowCode then
    { m with sumM := m.sumM + em, sumO := m.sumO + eo, windowCount := m.windowCount + 1 }
  else { m with windowCode := w, sumM := em, sumO := eo, windowCount := 1 }

/-- The window holds 4 to the power of the window code frames (R114). -/
def windowFull (m : Meter) : Bool := decide (m.windowCount = 4 ^ m.windowCode)

/-- The averages of a full window (R115). -/
def windowReading (m : Meter) : Reading :=
  let a := m.sumM / 2 ^ (2 * m.windowCode)
  let b := m.sumO / 2 ^ (2 * m.windowCode)
  { mic := a, out := b, steps := lossSteps a b }

/-- A window latched (R115). -/
def meterLatch (m : Meter) : Meter :=
  { m with
    latched := some (windowReading m), sumM := 0, sumO := 0, windowCount := 0
    latches := countUp m.latches 1 }

/-- The tests of R116 on latched steps `n`, with the levels of the pass's start. -/
def State.testLatch (s : State) (l : LaneId) (start : Meter) (n : Nat) : State :=
  let x := s.lane l
  if x.lock then
    if n < start.lowLevel then s.raiseLane .erleLow l else s
  else if start.lockLevel ≤ n then
    (s.setLane l { x with lock := true, guard := { x.guard with tripCount := 0 } }).raiseLane
      .erleLock l
  else s

/-- The last save is absent or at least the interval behind E (R132). -/
def saveIsOld (last : Option Epoch) (now : Epoch) (interval : Nat) : Bool :=
  match last with
  | none => true
  | some e => decide ((interval : Int) ≤ behind now e)

/-- The auto-save test at a latch of steps `n`, with the parameters of the pass's start (R132). -/
def State.autoSave (s : State) (l : LaneId) (start : Guard) (n : Nat) : State :=
  let x := s.lane l
  if x.state = .run ∧ x.lock ∧ start.saveLevel ≤ n ∧ start.autoSave
      ∧ saveIsOld x.guard.lastSave s.epoch start.saveInterval ∧ s.anyShiftWaiting l = false then
    s.request l .save
  else s

/-- The window step of the meter for a FAR frame (R114 to R116). -/
def State.meterWindow (s : State) (l : LaneId) (start : Lane) (wasRun : Bool) (em eo : Nat) : State :=
  let x := s.lane l
  let m := meterAdd x.meter start.meter.window em eo
  if windowFull m then
    let n := (windowReading m).steps
    let s1 := s.setLane l { x with meter := meterLatch m }
    if wasRun then (s1.testLatch l start.meter n).autoSave l start.guard n else s1
  else s.setLane l { x with meter := m }

/-- Step 3 of a pass's completion: the meter (R68, R113, R114). -/
def State.meterStep (s : State) (l : LaneId) (start : Lane) (wasRun : Bool) (t : TalkState)
    (em eo : Nat) : State :=
  let x := s.lane l
  let s1 := s.setLane l { x with meter := meterRecent x.meter em eo }
  if t = .far then s1.meterWindow l start wasRun em eo else s1

/-! ## The guard at a pass's completion (R124 to R127) -/

/-- The lane's waiting SAVE is removed (R125). -/
def State.dropSave (s : State) (l : LaneId) : State :=
  s.removeEntries fun e => decide (e = { kind := .save, lane := l })

/-- The guard fields after a trip, before the retry countdown (R125). -/
def trippedGuard (g : Guard) : Guard :=
  { g with
    divergence := 0, tripCount := g.tripCount + 1, totalTrips := countUp g.totalTrips 1 }

/-- A trip of lane `l`. The retry delay is that of the pass's start; the retry attempts are those of
the completion (R125 to R127, R137). -/
def State.trip (s : State) (l : LaneId) (start : Guard) : State :=
  let x := s.lane l
  let g := trippedGuard x.guard
  let s1 := s.dropSave l
  if g.tripCount ≤ g.attempts then
    (((s1.setLane l { x with
        state := .tripped, lock := false
        guard := { g with retry := some (start.retryDelay * 8) } }).request l .restore).raiseLane
      .laneTrip l)
  else
    (((s1.setLane l { x with state := .lockout, lock := false, guard := g }).request l .clear).raiseLane
      .laneLockout l)

/-- The divergence count becomes `n`. -/
def State.setDivergence (s : State) (l : LaneId) (n : Nat) : State :=
  let x := s.lane l
  s.setLane l { x with guard := { x.guard with divergence := n } }

/-- Step 4 of a pass's completion: the verdict, applied to a lane that is RUN at that moment and
discarded otherwise (R124). -/
def State.guardStep (s : State) (l : LaneId) (start : Guard) (v : Verdict) : State :=
  if (s.lane l).state = .run then
    match v with
    | .unchanged => s
    | .clear => s.setDivergence l 0
    | .raise n => s.setDivergence l n
    | .trip => s.trip l start
  else s

/-! ## The completion of a pass (R68) -/

/-- The chain adapted, and no SHIFT of the lane and reference waits now (R68 step 1, R73 row 7). -/
def State.lands (s : State) (l : LaneId) (freeze : Vector (Option Freeze) 3) (r : RefId) : Bool :=
  (freeze[r] == some .adapting) && !s.shiftWaiting l r

/-- The updates that land, written, with the clamped coefficients counted (R68 step 1). -/
def State.landUpdates (s : State) (l : LaneId) (freeze : Vector (Option Freeze) 3) :
    List Update → State
  | [] => s
  | u :: us =>
    (if s.lands l freeze u.ref then
      let x := s.lane l
      { s.setLane l { x with
          counters := { x.counters with coeffSats := countUp x.counters.coeffSats u.sats } } with
        store := s.store.writePart l u.ref u.position u.coefs }
    else s).landUpdates l freeze us

/-- The freeze reasons at completion: SHIFT_PENDING for a chain that adapted and whose SHIFT now waits
(R68 step 1, R73 row 7). -/
def State.finalFreeze (s : State) (l : LaneId) (freeze : Vector (Option Freeze) 3) :
    Vector (Option Freeze) 3 :=
  Vector.ofFn fun r =>
    if freeze[r] = some .adapting ∧ s.shiftWaiting l r then some .shiftPending else freeze[r]

/-- Step 2: the talk state, hangover and last detection (R68, R88). -/
def State.talkStep (s : State) (l : LaneId) (res : PassResults) : State :=
  let x := s.lane l
  s.setLane l { x with talk := { x.talk with
    state := res.talk, hangover := res.hangover, last := some res.detection } }

/-- Step 5: the cursor, the freeze reasons and the error saturations (R68). -/
def State.cursorStep (s : State) (l : LaneId) (res : PassResults)
    (freeze : Vector (Option Freeze) 3) : State :=
  let x := s.lane l
  s.setLane l { x with
    cursor := res.cursor, freeze := some freeze
    counters := { x.counters with errorSats := countUp x.counters.errorSats res.errorSats } }

/-- Step 6: the in-flight slot empties, the output frame is inserted, and a BYPASS or LOCKOUT lane
passes its queued frames through (R29, R68). -/
def State.outputStep (s : State) (l : LaneId) (f : OutFrame) : State :=
  let s1 := (s.setLane l { s.lane l with inFlight := none }).insertOutput l f
  if (s1.lane l).state = .bypass ∨ (s1.lane l).state = .lockout then s1.flush l else s1

/-- A pass completed is counted (R82). -/
def State.countPass (s : State) : State :=
  { s with engine := { s.engine with passes := countUp s.engine.passes 1 } }

/-- Steps 1 to 6 of the completion of a pass whose results are not dropped (R68). -/
def State.landResults (s : State) (inp : PassInputs) (res : PassResults) : State :=
  let l := inp.lane
  let freeze := s.finalFreeze l res.freeze
  let s1 := s.landUpdates l res.freeze res.updates
  let s2 := s1.talkStep l res
  let s3 := s2.meterStep l inp.record inp.wasRun res.talk res.micEnergy res.outEnergy
  let s4 := s3.guardStep l inp.record.guard res.verdict
  let s5 := s4.cursorStep l res freeze
  s5.outputStep l res.output

/-- The completion of a pass: dropped when the lane is CLEARING (R38, R68). -/
def State.completePass (s : State) (inp : PassInputs) (grant : Nat) : State :=
  let s1 :=
    if (s.lane inp.lane).state = .clearing then
      s.setLane inp.lane { s.lane inp.lane with inFlight := none }
    else s.landResults inp (inp.results grant)
  s1.countPass.engineIdle

/-! ## The completion of a maintenance job -/

/-- A stack without its bottom entry, whose slots return to the free set (R134). -/
def dropBottom (cs : CheckpointStore) (stack : List Checkpoint) :
    CheckpointStore × List Checkpoint :=
  match stack.getLast? with
  | none => (cs, stack)
  | some e => (cs.freeAll e.slots, stack.dropLast)

/-- Bottom entries are dropped while too few slots are free and the stack is not empty, at most `fuel`
times (R134 step 2). -/
def makeRoom (need : Nat) : Nat → CheckpointStore → List Checkpoint →
    CheckpointStore × List Checkpoint
  | 0, cs, stack => (cs, stack)
  | fuel + 1, cs, stack =>
    if cs.freeSlots.length < need ∧ stack ≠ [] then
      makeRoom need fuel (dropBottom cs stack).1 (dropBottom cs stack).2
    else (cs, stack)

/-- The span S′ of a checkpoint: the lesser of S and T (R134). -/
def savedSpan (x : Lane) : Nat := min x.guard.span (tailOf x)

/-- The coefficients a SAVE copies, in slot-list order (R130, R134). -/
def savedParts (x : Lane) (chains : Chains) : List Partition :=
  (boundRefs x).flatMap fun r => (chains[r]).take (savedSpan x)

/-- The completion of a SAVE of lane `l`, from what it read at its start (R134). -/
def State.completeSave (s : State) (l : LaneId) (start : Lane) (chains : Chains) (saved : Epoch) :
    State :=
  let x := s.lane l
  let need := savedSpan start * (boundRefs start).length
  let (cs1, st1) :=
    if Config.stackDepth ≤ x.guard.stack.length then dropBottom s.checkpoints x.guard.stack
    else (s.checkpoints, x.guard.stack)
  let (cs2, st2) := makeRoom need st1.length cs1 st1
  let s1 :=
    if cs2.freeSlots.length < need then
      { s.setLane l { x with guard := { x.guard with stack := st2 } } with
        checkpoints := cs2 }.raiseLane .checkpointSkipped l
    else
      let slots := cs2.freeSlots.take need
      let entry : Checkpoint :=
        { sequence := x.guard.nextSequence, epoch := saved
          steps := start.meter.latched.map fun v => v.steps
          delays := start.delays, span := savedSpan start, slots := slots }
      { s.setLane l { x with guard := { x.guard with
          stack := entry :: st2, nextSequence := x.guard.nextSequence + 1
          lastSave := some saved } } with
        checkpoints := cs2.writeAll (slots.zip (savedParts start chains)) }
  s1.engineIdle

/-- A chain of `t` partitions formed from saved head partitions, every other tap zero (R135 step 1). -/
def formChain (t : Nat) (head : List Partition) : List Partition :=
  (List.range t).map fun j => head.getD j zeroPartition

/-- The chains a RESTORE writes: zero when the stack was empty, and otherwise the saved heads shifted to
the applied delays of the job's start (R135). -/
def restoredChains (start : Lane) (saved : Chains) : Chains :=
  Vector.ofFn fun r =>
    if (boundRefs start).contains r then
      match start.guard.stack with
      | [] => List.replicate (tailOf start) zeroPartition
      | e :: _ =>
        shiftChain (formChain (tailOf start) saved[r])
          ((delayOf start r : Int) - (((e.delays[r]).getD 0 : Nat) : Int))
    else []

/-- The completion of a RESTORE of lane `l`: the chains are written, and the top entry of a stack that
was not empty at the job's start is popped (R135). -/
def State.completeRestore (s : State) (l : LaneId) (start : Lane) (saved : Chains) : State :=
  let s1 := s.writeChains l (restoredChains start saved)
  let x := s1.lane l
  let s2 :=
    match start.guard.stack, x.guard.stack with
    | _ :: _, e :: rest =>
      { s1.setLane l { x with guard := { x.guard with stack := rest } } with
        checkpoints := s1.checkpoints.freeAll e.slots }
    | _, _ => s1
  s2.engineIdle

/-- The chains of a lane all zero. -/
def zeroChains (x : Lane) : Chains :=
  Vector.ofFn fun r =>
    if (boundRefs x).contains r then List.replicate (tailOf x) zeroPartition else []

/-- The completion of a CLEAR of lane `l`: every chain is zero, and a CLEARING lane becomes BYPASS (R51,
R38). -/
def State.completeClear (s : State) (l : LaneId) : State :=
  let x := s.lane l
  let s1 := s.writeChains l (zeroChains x)
  (if x.state = .clearing then s1.setLane l { x with state := .bypass } else s1).engineIdle

/-- The completion of a SHIFT: the shifted chain lands, the applied delay becomes D, and the realign
ends when no SHIFT of the reference remains (R106, R107). -/
def State.completeShift (s : State) (l : LaneId) (r : RefId) (delta : Int) (old : List Partition) :
    State :=
  let s1 := { s with store := s.store.writeChain l r 0 (shiftChain old delta) }
  let x := s1.lane l
  let s2 := s1.setLane l { x with delays := x.delays.set r (some (s1.realign r).target) }
  s2.engineIdle.endRealignIfDone r

end Sys2Proof.Machine
end

