-- ==== Sys2Proof/Machine/Advance.lean ====
section
/-! DEFINITION. The epoch advance (R1, R77) and the actions it brings about (R12, R28, R99, R102, R122,
R128), and how an event of the part begins: everything an earlier event brought about is carried out
first, the actions of the advance (log 3), the arbiter's start (R59, R65) and the scrubber's (R47). -/

namespace Sys2Proof.Machine

/-! ## The actions of an advance -/

/-- An OPEN tracker's old record closes as a miss (R99). -/
def State.doOnsetAge (s : State) (r : RefId) : State :=
  s.setTracker r (ageOnset (s.tracker r) s.epoch)

/-- The hold countdown reaches 0 (R102). -/
def State.doHoldEnd (s : State) (r : RefId) : State :=
  s.setRealign r { s.realign r with hold := 0 }

/-- A last change 64 or more epochs behind E becomes absent (R102). -/
def State.doChangeAge (s : State) (r : RefId) : State :=
  match (s.realign r).lastChange with
  | some (_, e) =>
    if 64 ≤ behind s.epoch e then s.setRealign r { s.realign r with lastChange := none } else s
  | none => s

/-- The frame is 32 or more epochs behind E (R28). -/
def tooOld (now : Epoch) (f : InFrame) : Bool := decide (32 ≤ behind now f.epoch)

/-- Frames 32 or more epochs behind E are discarded and counted, and FRAME_EXPIRED is raised once for a
lane that discarded one (R28). -/
def State.doExpire (s : State) (l : LaneId) : State :=
  let x := s.lane l
  let old := x.input.filter fun f => tooOld s.epoch f
  if old = [] then s
  else
    (s.setLane l { x with
      input := x.input.filter fun f => !tooOld s.epoch f
      counters := { x.counters with expired := countUp x.counters.expired old.length } }).raiseLane
        .frameExpired l

/-- A last accepted epoch 1024 or more epochs behind E becomes absent (R28). -/
def State.doAcceptedAge (s : State) (l : LaneId) : State :=
  let x := s.lane l
  match x.lastAccepted with
  | some e => if 1024 ≤ behind s.epoch e then s.setLane l { x with lastAccepted := none } else s
  | none => s

/-- A TRIPPED lane's countdown reaches 0: the lane becomes RUN with its lock flag cleared (R128). -/
def State.doRetryEnd (s : State) (l : LaneId) : State :=
  let x := s.lane l
  s.setLane l { x with state := .run, lock := false, guard := { x.guard with retry := none } }

/-- A last-save epoch 4096 or more epochs behind E becomes absent (R122). DESIGN CHOICE: that of an
UNBOUND lane too, which R122 leaves open (log 25). -/
def State.doSaveAge (s : State) (l : LaneId) : State :=
  let x := s.lane l
  match x.guard.lastSave with
  | some e =>
    if 4096 ≤ behind s.epoch e then s.setLane l { x with guard := { x.guard with lastSave := none } }
    else s
  | none => s

/-- One action of an advance. -/
def State.act (s : State) : EpochAction → State
  | .onsetAge r => s.doOnsetAge r
  | .resolve r => s.resolve r
  | .holdEnd r => s.doHoldEnd r
  | .changeAge r => s.doChangeAge r
  | .expire l => s.doExpire l
  | .acceptedAge l => s.doAcceptedAge l
  | .retryEnd l => s.doRetryEnd l
  | .saveAge l => s.doSaveAge l

/-- The actions in order. -/
def State.actAll (s : State) : List EpochAction → State
  | [] => s
  | a :: as => (s.act a).actAll as

/-! ## The advance itself (R1, R77, R102, R128) -/

/-- The hold countdown of reference `r` reaches 0 at this advance: it stands at 1. -/
def State.holdEnds (s : State) (r : RefId) : Bool := (s.realign r).hold == 1

/-- The retry countdown of lane `l` reaches 0 at this advance: the lane is TRIPPED and it stands at 1. -/
def State.retryEnds (s : State) (l : LaneId) : Bool :=
  (s.lane l).state == .tripped && (s.lane l).guard.retry == some 1

/-- The actions an advance brings about. The ageing of onset records comes before the gaps (R99). -/
def State.actionsDue (s : State) : List EpochAction :=
  allRefs.map .onsetAge ++ allRefs.map .resolve
    ++ ((allRefs.filter fun r => s.holdEnds r).map .holdEnd) ++ allRefs.map .changeAge
    ++ allLanes.map .expire ++ allLanes.map .acceptedAge
    ++ ((allLanes.filter fun l => s.retryEnds l).map .retryEnd) ++ allLanes.map .saveAge

/-- A hold countdown counts one epoch; the step from 1 to 0 is HOLD_COUNTDOWN_END (R102, log 20). -/
def holdTick (x : Realign) : Realign := if 1 < x.hold then { x with hold := x.hold - 1 } else x

/-- A TRIPPED lane's retry countdown counts one epoch; the step from 1 to 0 is RETRY_COUNTDOWN_END
(R128, log 20). -/
def retryTick (x : Lane) : Lane :=
  match x.state, x.guard.retry with
  | .tripped, some n =>
    if 1 < n then { x with guard := { x.guard with retry := some (n - 1) } } else x
  | _, _ => x

/-- E advances by one, the budget is refilled, the countdowns count, and the blocks' actions are due
(R1, R77, R102, R128). -/
def State.advance (s : State) : State :=
  { s with
    epoch := s.epoch + 1
    engine := { s.engine with budget := Config.budget }
    realigns := Vector.ofFn fun r => holdTick s.realigns[r]
    lanes := Vector.ofFn fun l => retryTick s.lanes[l]
    due := s.actionsDue }

/-! ## What is due, and how an event begins -/

/-- The actions of the last advance that have not been carried out are carried out, and a DEVICE RESET
is no longer the event taken last. -/
def State.settleEpoch (s : State) : State :=
  ({ s with due := [], scrubAbandoned := false }).actAll s.due

/-- The scrubber starts if it is idle, RESET_N is not low and a partition is in SCRUB (R47, R49). -/
def State.settleScrubber (s : State) : State :=
  if s.resetLow || s.store.scrub.isSome then s else s.startScrubber

/-- The arbiter's or the scrubber's start is taken: the advance's actions have been made and the pulses
of earlier events have ended (R160). -/
def State.beginStart (s : State) : State := s.settleEpoch.endPulses

/-- What the start of a scrub finds: the arbiter has acted on the work an earlier event brought about, at
a completion or at an idle engine (R59, R65), and the pulses of that start have ended. -/
def State.beginScrub (s : State) : State := s.beginStart.arbitrate.endPulses

/-- An event is taken: the starts that earlier events brought about have been made, each as an event of
its own (R47, R59, R65, R160, log 4). -/
def State.beginEvent (s : State) : State := s.beginScrub.settleScrubber

/-- An action of the advance taken as a row of its own: it is carried out if it is due, and does nothing
otherwise. The event is still the advance's, so no pulse ends (R160). -/
def State.takeAction (s : State) (a : EpochAction) : State :=
  if s.due.contains a then ({ s with due := s.due.filter fun b => b ≠ a }).act a else s

end Sys2Proof.Machine
end

