-- ==== Sys2Proof/Machine/Command.lean ====
section
/-! DEFINITION. How a command is taken on a port (Chapter 9): the decoder, the port's checks (R145 to
R148) and the response (R141, R142, R149). -/

namespace Sys2Proof.Machine

/-! ## The decoder and the response -/

/-- The turnaround word (R140). -/
def turnaround : Word := 0

/-- The word driven on SDO while no response is sent (R140). -/
def idleFill : Word := 0

/-- The word driven on SDO; none in WAIT, where SDO is not driven (R140). -/
def Decoder.sdo : Decoder → Option Word
  | .wait => none
  | .command _ => some idleFill
  | .responding (w :: _) => some w
  | .responding [] => some idleFill
  | .draining => some idleFill

/-- One whole word clocked: the SDI word is stored in COMMAND and ignored elsewhere, and the last
response word's end is the end of RESPONDING (R140, R141). -/
def Decoder.clock (d : Decoder) (w : Word) : Decoder :=
  match d with
  | .wait => .wait
  | .command received => .command (received ++ [w])
  | .responding (_ :: v :: rest) => .responding (v :: rest)
  | .responding _ => .draining
  | .draining => .draining

/-- The words clocked one after another. -/
def Decoder.clockAll (d : Decoder) : List Word → Decoder
  | [] => d
  | w :: ws => (d.clock w).clockAll ws

/-- The decoder is in COMMAND and the command of code `code` is completed by words that come after
those received: these are the command's first words, and at least its last one is still to come
(R141). -/
def Decoder.awaits (d : Decoder) (code : Byte) (m : Message) : Bool :=
  match d with
  | .command received =>
    received.isPrefixOf (commandWords code m)
      && decide (received.length < (commandWords code m).length)
  | _ => false

/-- Replaces a port's decoder. -/
def State.setDecoder (s : State) (p : Port) (d : Decoder) : State :=
  s.setPort p { s.port p with decoder := d }

/-- The response is formed and the decoder enters RESPONDING, the turnaround word first (R141, R142). -/
def State.respond (s : State) (p : Port) (code : Byte) (st : Status) (payload : List Word) : State :=
  s.setDecoder p (.responding (turnaround :: responseWords st code payload))

/-! ## The kind table (R147, R148) -/

/-- The kind is open to the port (section 9.4). -/
def openTo (k : Kind) (p : Port) : Bool :=
  match k with
  | .nop | .declareRef | .refFrame | .refStatus | .historyRead | .laneStatus | .coeffRead
  | .storeStatus | .engineStatus | .talkStatus | .trackerStatus | .meterRead | .guardStatus
  | .noticeRead | .noticeConfig | .noticeArm => true
  | .micFrame | .fetch => p == .portM
  | .setMode => p == .portM || p == .portS
  | .refConfig | .bind | .unbind | .resize | .resetLane | .coeffWrite | .laneConfig | .talkConfig
  | .trackerConfig | .trackerClear | .setDelay | .meterConfig | .rearm | .saveCheckpoint
  | .dropCheckpoints | .guardConfig | .deviceReset => p == .portS

/-- The kind accepts a payload of `n` words (section 9.4). -/
def acceptsLength (k : Kind) (n : Nat) : Bool :=
  match k with
  | .refFrame | .micFrame => n == 129
  | .coeffWrite => n % 2 == 1 && decide (3 ≤ n) && decide (n ≤ 259)
  | .trackerConfig | .guardConfig => n == 8
  | .talkConfig | .meterConfig => n == 4
  | .historyRead | .coeffRead | .laneConfig => n == 3
  | .refConfig | .bind | .noticeConfig => n == 2
  | .declareRef | .setMode | .resize | .setDelay => n == 1
  | .nop | .refStatus | .fetch | .unbind | .resetLane | .laneStatus | .storeStatus | .engineStatus
  | .talkStatus | .trackerClear | .trackerStatus | .meterRead | .rearm | .saveCheckpoint
  | .dropCheckpoints | .guardStatus | .noticeRead | .noticeArm | .deviceReset => n == 0

/-! ## Taking a command -/

/-- An owner's answer: the status, the response payload, and the state the command has left. -/
structure Reply where
  status  : Status
  payload : List Word
  after   : State
  deriving DecidableEq, Repr

/-- A refusal: no payload, nothing changed (R149). -/
def refuse (st : Status) (s : State) : Reply := { status := st, payload := [], after := s }

/-- The port's checks, and then the owner's answer (R145). -/
def checkedReply (k : Kind) (p : Port) (m : Message) (s : State) (owner : State → Reply) : Reply :=
  if !openTo k p then refuse .wrongPort s
  else if !acceptsLength k m.declared.toNat then refuse .badArg s
  else owner s

/-- A command of kind `k` taken on port `p`, whose last declared word has arrived. A port whose decoder
is not in COMMAND ignores the words (R140), and words received that are not this command's do not become
it. The effects and the response are made together (R141). -/
def takeCommand (k : Kind) (p : Port) (m : Message) (s : State) (owner : State → Reply) :
    Host.Outcome State Fault Refusal :=
  if !m.wellFormed then .refused .illFormed
  else if !(s.port p).decoder.awaits (kindCode k) m then .next s
  else
    let a := checkedReply k p m s.beginEvent owner
    .next (a.after.respond p (kindCode k) a.status a.payload)

/-! ## Targets and states shared by the owners -/

/-- A command whose target is a lane: refused BAD_ARG outside 0 to 15. -/
def onLane (m : Message) (s : State) (f : LaneId → Reply) : Reply :=
  match laneTarget m with
  | none => refuse .badArg s
  | some l => f l

/-- A command whose target is a lane that must be bound: BAD_ARG, then WRONG_STATE for UNBOUND. -/
def onBoundLane (m : Message) (s : State) (f : LaneId → Reply) : Reply :=
  onLane m s fun l => if (s.lane l).state = .unbound then refuse .wrongState s else f l

/-- A command whose target is a reference: refused BAD_ARG outside 0 to 2. -/
def onRef (m : Message) (s : State) (f : RefId → Reply) : Reply :=
  match refTarget m with
  | none => refuse .badArg s
  | some r => f r

/-- A command whose target must be 0 (section 9.4). -/
def onZero (m : Message) (s : State) (a : Reply) : Reply :=
  if m.target = 0 then a else refuse .badArg s

/-- A configuration command's answer: CLAMPED if a value was changed by clamping, OK otherwise, with the
values as stored (R150). -/
def configured (changed : Bool) (stored : List Word) (s : State) : Reply :=
  { status := if changed then .clamped else .ok, payload := stored, after := s }

/-- An answer OK with a payload. -/
def answer (payload : List Word) (s : State) : Reply :=
  { status := .ok, payload := payload, after := s }

end Sys2Proof.Machine
end

