-- ==== Sys2Proof/Machine/EngineCommands.lean ====
section
/-! DEFINITION. LANE CONFIG and ENGINE STATUS (Chapter 4). -/

namespace Sys2Proof.Machine

/-- The lane record with new engine parameters (R80). -/
def configureEngine (x : Lane) (step quota regularize : Nat) : Lane :=
  { x with step := step, quota := quota, regularize := regularize }

/-- LANE_CONFIG (R80). -/
def execLaneConfig (p : Port) (m : Message) (s : State) : Host.Outcome State Fault Refusal :=
  takeCommand .laneConfig p m s fun s => onBoundLane m s fun l =>
    let step := tuned m 0 0 255
    let quota := tuned m 1 1 16
    let j := tuned m 2 16 31
    configured (clamped m 0 0 255 || clamped m 1 1 16 || clamped m 2 16 31)
      [wordOf step, wordOf quota, wordOf j]
      (s.setLane l (configureEngine (s.lane l) step quota j))

/-- The words of a job in flight after its presence word: kind, lane, and the frame epoch of a PASS or
the reference and Δ of a SHIFT (R81, R156). -/
def jobWords : Job → List Word
  | .pass inputs _ => [1, wordOf inputs.lane.val, inputs.epoch]
  | .save l _ _ _ => [2, wordOf l.val]
  | .restore l _ _ => [3, wordOf l.val]
  | .clear l => [4, wordOf l.val]
  | .shift l r delta _ => [5, wordOf l.val, wordOf r.val, intWord delta]

/-- The words of a waiting entry: kind, lane, and the reference and Δ of a SHIFT (R81, R156). -/
def entryWords (e : MaintEntry) : List Word :=
  match e.kind with
  | .save => [2, wordOf e.lane.val]
  | .restore => [3, wordOf e.lane.val]
  | .clear => [4, wordOf e.lane.val]
  | .shift r delta => [5, wordOf e.lane.val, wordOf r.val, intWord delta]

/-- The set of ready lanes in one word (R81, R156). -/
def readyWord (s : State) : Word := wordOf (s.readyLanes.map fun l => 2 ^ l.val).sum

/-- The truncated and unknown counters of a port (R81, R152). -/
def portWords (s : State) (p : Port) : List Word := [(s.port p).truncated, (s.port p).unknown]

/-- The words of an ENGINE STATUS response (R81, log 14). -/
def engineReport (s : State) : List Word :=
  presentWords 2 (s.engine.job.map jobWords)
    ++ wordOf s.engine.queue.length :: s.engine.queue.flatMap entryWords
    ++ [wordOf s.engine.budget, s.engine.passes, readyWord s]
    ++ portWords s .portR ++ portWords s .portM ++ portWords s .portS

/-- ENGINE_STATUS (R81). -/
def execEngineStatus (p : Port) (m : Message) (s : State) : Host.Outcome State Fault Refusal :=
  takeCommand .engineStatus p m s fun s => onZero m s (answer (engineReport s) s)

end Sys2Proof.Machine
end

