-- ==== Sys2Proof/Machine/EpochEvents.lean ====
section
/-! DEFINITION. The epoch advance and the rows of the table that are actions of it (R1, R12, R28, R99,
R102, R122, R128). -/

namespace Sys2Proof.Machine

/-- EPOCH_ADVANCE: an FSYNC rising edge, ignored while RESET_N is low (R1, R77, R102, R128). -/
def execEpochAdvance (s : State) : Host.Outcome State Fault Refusal :=
  let s := s.beginEvent
  .next (if s.resetLow then s else s.advance)

/-- EPOCH_RESOLUTION of one reference (R12, R13). The ageing of its onset record is made first (R99). -/
def execEpochResolution (r : RefId) (s : State) : Host.Outcome State Fault Refusal :=
  .next (if s.due.contains (.resolve r) then (s.takeAction (.onsetAge r)).takeAction (.resolve r)
    else s)

/-- FRAME_EXPIRY of one lane (R28). -/
def execFrameExpiry (l : LaneId) (s : State) : Host.Outcome State Fault Refusal :=
  .next (s.takeAction (.expire l))

/-- LAST_ACCEPTED_EPOCH_AGE_OUT of one lane (R28). -/
def execLastAcceptedEpochAgeOut (l : LaneId) (s : State) : Host.Outcome State Fault Refusal :=
  .next (s.takeAction (.acceptedAge l))

/-- RETRY_COUNTDOWN_END of one lane (R128). -/
def execRetryCountdownEnd (l : LaneId) (s : State) : Host.Outcome State Fault Refusal :=
  .next (s.takeAction (.retryEnd l))

/-- HOLD_COUNTDOWN_END of one reference (R102). -/
def execHoldCountdownEnd (r : RefId) (s : State) : Host.Outcome State Fault Refusal :=
  .next (s.takeAction (.holdEnd r))

/-- LAST_CHANGE_AGE_OUT of one reference (R102). -/
def execLastChangeAgeOut (r : RefId) (s : State) : Host.Outcome State Fault Refusal :=
  .next (s.takeAction (.changeAge r))

/-- ONSET_RECORD_AGE_OUT of one reference (R99). -/
def execOnsetRecordAgeOut (r : RefId) (s : State) : Host.Outcome State Fault Refusal :=
  .next (s.takeAction (.onsetAge r))

/-- LAST_SAVE_EPOCH_AGE_OUT of one lane (R122). -/
def execLastSaveEpochAgeOut (l : LaneId) (s : State) : Host.Outcome State Fault Refusal :=
  .next (s.takeAction (.saveAge l))

end Sys2Proof.Machine
end

