-- ==== Sys2Proof/Machine/GuardCommands.lean ====
section
/-! DEFINITION. REARM, SAVE CHECKPOINT, DROP CHECKPOINTS, GUARD CONFIG and GUARD STATUS (Chapter 8). -/

namespace Sys2Proof.Machine

/-- The lane record after an accepted REARM (R129). -/
def rearmedLane (x : Lane) : Lane :=
  { x with state := .run, lock := false, guard := { x.guard with tripCount := 0 } }

/-- REARM (R129). -/
def execRearm (p : Port) (m : Message) (s : State) : Host.Outcome State Fault Refusal :=
  takeCommand .rearm p m s fun s => onLane m s fun l =>
    if (s.lane l).state ≠ .lockout then refuse .wrongState s
    else if s.waiting l .clear || s.clearInFlight l then refuse .busy s
    else answer [] (s.setLane l (rearmedLane (s.lane l)))

/-- The answer to a SAVE CHECKPOINT, by the lane's state (R133). -/
def saveReply (s : State) (l : LaneId) : Reply :=
  match (s.lane l).state with
  | .unbound => refuse .wrongState s
  | .lockout => refuse .wrongState s
  | .clearing => refuse .busy s
  | .bypass | .run | .tripped => { status := .queued, payload := [], after := s.request l .save }

/-- SAVE_CHECKPOINT (R133). -/
def execSaveCheckpoint (p : Port) (m : Message) (s : State) : Host.Outcome State Fault Refusal :=
  takeCommand .saveCheckpoint p m s fun s => onLane m s fun l => saveReply s l

/-- A SAVE or RESTORE of the lane waits or is in flight (R136). -/
def State.holdsOffDrop (s : State) (l : LaneId) : Bool :=
  s.waiting l .save || s.waiting l .restore || s.checkpointJobInFlight l

/-- Every checkpoint entry of the lane deleted, and the last-save epoch absent (R136). -/
def State.dropStack (s : State) (l : LaneId) : State :=
  let x := s.lane l
  { s with checkpoints := freeStack s.checkpoints x.guard.stack }.setLane l
    { x with guard := { x.guard with stack := [], lastSave := none } }

/-- DROP_CHECKPOINTS (R136). -/
def execDropCheckpoints (p : Port) (m : Message) (s : State) : Host.Outcome State Fault Refusal :=
  takeCommand .dropCheckpoints p m s fun s => onBoundLane m s fun l =>
    if s.holdsOffDrop l then refuse .busy s else answer [] (s.dropStack l)

/-- The trip count limited by new retry attempts (R137). -/
def limitedTrips (st : LaneState) (trips attempts : Nat) : Nat :=
  if st = .lockout then attempts + 1 else min trips attempts

/-- The guard fields of a lane in state `st` after a GUARD CONFIG (R137). -/
def configureGuard (st : LaneState) (g : Guard) (m : Message) (autoSave : Bool) : Guard :=
  { g with
    tripCount := limitedTrips st g.tripCount (tuned m 3 0 15)
    margin := tuned m 0 0 3, hold := tuned m 1 1 15, retryDelay := tuned m 2 1 255
    attempts := tuned m 3 0 15, saveLevel := tuned m 4 0 31, saveInterval := tuned m 5 64 4096
    span := tuned m 6 1 4, autoSave := autoSave }

/-- Clamping changed one of the seven tuning values of GUARD CONFIG (R137). -/
def guardClamped (m : Message) : Bool :=
  clamped m 0 0 3 || clamped m 1 1 15 || clamped m 2 1 255 || clamped m 3 0 15
    || clamped m 4 0 31 || clamped m 5 64 4096 || clamped m 6 1 4

/-- The eight values of GUARD CONFIG as stored (R137). -/
def guardParameters (g : Guard) : List Word :=
  [wordOf g.margin, wordOf g.hold, wordOf g.retryDelay, wordOf g.attempts, wordOf g.saveLevel,
   wordOf g.saveInterval, wordOf g.span, flagWord g.autoSave]

/-- GUARD_CONFIG (R137). -/
def execGuardConfig (p : Port) (m : Message) (s : State) : Host.Outcome State Fault Refusal :=
  takeCommand .guardConfig p m s fun s => onLane m s fun l =>
    match flagArg m 7 with
    | none => refuse .badArg s
    | some autoSave =>
      if (s.lane l).state = .unbound then refuse .wrongState s
      else
        let x := s.lane l
        let g := configureGuard x.state x.guard m autoSave
        configured (guardClamped m) (guardParameters g) (s.setLane l { x with guard := g })

/-- The words of a checkpoint entry of a lane bound to `refs` (R138, log 15). -/
def checkpointWords (refs : List RefId) (e : Checkpoint) : List Word :=
  [e.sequence, e.epoch, optWord e.steps] ++ (refs.map fun r => optWord e.delays[r])
    ++ wordOf e.span :: e.slots.map fun i => wordOf i.val

/-- The words of a GUARD STATUS response after the free slots, for a bound lane (R138). -/
def boundGuardReport (x : Lane) : List Word :=
  let g := x.guard
  [laneStateCode x.state, wordOf g.divergence, wordOf g.tripCount] ++ optCounter (some g.totalTrips)
    ++ [optWord g.retry] ++ optEpoch g.lastSave ++ presentWords 1 (some [g.nextSequence])
    ++ guardParameters g ++ wordOf g.stack.length :: g.stack.flatMap (checkpointWords (boundRefs x))

/-- The words of a GUARD STATUS response after the free slots, for an UNBOUND lane: the state, and every
other field absent (R138, log 15). -/
def unboundGuardReport : List Word :=
  [laneStateCode .unbound, absentWord, absentWord] ++ optCounter none ++ [absentWord]
    ++ optEpoch none ++ presentWords 1 none ++ List.replicate 8 absentWord ++ [absentWord]

/-- The words of a GUARD STATUS response (R138). -/
def guardReport (s : State) (l : LaneId) : List Word :=
  wordOf s.checkpoints.freeSlots.length ::
    (if (s.lane l).state = .unbound then unboundGuardReport else boundGuardReport (s.lane l))

/-- GUARD_STATUS (R138). -/
def execGuardStatus (p : Port) (m : Message) (s : State) : Host.Outcome State Fault Refusal :=
  takeCommand .guardStatus p m s fun s => onLane m s fun l => answer (guardReport s l) s

end Sys2Proof.Machine
end

