-- ==== Sys2Proof/Machine/JobEvents.lean ====
section
/-! DEFINITION. The starts and completions of engine jobs and scrubs (Chapters 3, 4, 6 and 8). A
completion of a job that is not in flight, and a start the arbiter or the scrubber does not choose,
leaves the part as it stands (log 5). -/

namespace Sys2Proof.Machine

/-- PASS_START: the arbiter starts a pass of the oldest ready lane when the engine is idle and no
maintenance entry waits (R64, R66). -/
def execPassStart (s : State) : Host.Outcome State Fault Refusal :=
  let s := s.beginStart
  .next (if s.engine.job.isSome ∨ s.engine.queue ≠ [] then s else s.startOldestPass)

/-- MAINTENANCE_START: the arbiter starts the oldest maintenance entry when the engine is idle (R64). -/
def execMaintenanceStart (s : State) : Host.Outcome State Fault Refusal :=
  let s := s.beginStart
  .next (if s.engine.job.isSome ∨ s.engine.queue = [] then s else s.startMaintenance)

/-- PASS_COMPLETE (R68). -/
def execPassComplete (s : State) : Host.Outcome State Fault Refusal :=
  let s := s.beginEvent
  .next
    (match s.engine.job with
     | some (.pass inputs grant) => s.completePass inputs grant
     | _ => s)

/-- SAVE_COMPLETE (R134). -/
def execSaveComplete (s : State) : Host.Outcome State Fault Refusal :=
  let s := s.beginEvent
  .next
    (match s.engine.job with
     | some (.save l record chains epoch) => s.completeSave l record chains epoch
     | _ => s)

/-- RESTORE_COMPLETE (R135). -/
def execRestoreComplete (s : State) : Host.Outcome State Fault Refusal :=
  let s := s.beginEvent
  .next
    (match s.engine.job with
     | some (.restore l record saved) => s.completeRestore l record saved
     | _ => s)

/-- CLEAR_COMPLETE (R51, R38). -/
def execClearComplete (s : State) : Host.Outcome State Fault Refusal :=
  let s := s.beginEvent
  .next
    (match s.engine.job with
     | some (.clear l) => s.completeClear l
     | _ => s)

/-- SHIFT_COMPLETE (R106, R107). -/
def execShiftComplete (s : State) : Host.Outcome State Fault Refusal :=
  let s := s.beginEvent
  .next
    (match s.engine.job with
     | some (.shift l r delta old) => s.completeShift l r delta old
     | _ => s)

/-- SCRUB_START: the idle scrubber starts on the lowest-numbered SCRUB partition; it stays idle while
RESET_N is low (R47, R49). -/
def execScrubStart (s : State) : Host.Outcome State Fault Refusal := .next s.beginScrub.settleScrubber

/-- SCRUB_COMPLETE: the partition is zero and FREE, and the scrubber starts on the next SCRUB partition
or becomes idle (R48). Right after a DEVICE RESET that abandoned a scrub it is that scrub's completion,
which is not taken (R49, R164, log 10). -/
def execScrubComplete (s : State) : Host.Outcome State Fault Refusal :=
  let t := s.beginEvent
  .next
    (match t.store.scrub with
     | some p =>
       if s.scrubAbandoned then t else { t with store := (t.store.finishScrub p).startScrub }
     | none => t)

end Sys2Proof.Machine
end

