-- ==== Sys2Proof/Machine/LaneCommands.lean ====
section
/-! DEFINITION. The commands of the Lane Table: MIC FRAME, FETCH, SET MODE, BIND, UNBIND, RESIZE, RESET
LANE and LANE STATUS (Chapter 2). -/

namespace Sys2Proof.Machine

/-! ## MIC FRAME and FETCH -/

/-- The state passes frames through (R25). -/
def passesThrough (st : LaneState) : Bool := st == .bypass || st == .lockout

/-- The frame is not after the lane's last accepted epoch (R22, row 5). -/
def isStale (x : Lane) (e : Epoch) : Bool :=
  match x.lastAccepted with
  | some n => !isAfter e n
  | none => false

/-- The epochs jumped since the last accepted frame (R23). -/
def skipped (x : Lane) (e : Epoch) : Nat :=
  match x.lastAccepted with
  | some n => ((e - n).toInt - 1).toNat
  | none => 0

/-- The first condition of R22's table that holds for a frame of epoch `e`, if one does. -/
def micRefusal (s : State) (l : LaneId) (e : Epoch) : Option Status :=
  let x := s.lane l
  let isFull := decide (Config.queueDepth ≤ x.input.length)
  if x.state = .unbound then some .wrongState
  else if x.state = .clearing then some .busy
  else if 2 < ahead s.epoch e then some .early
  else if 8 < behind s.epoch e then some .late
  else if isStale x e then some .stale
  else if runsPasses x.state && isFull then some .full
  else if passesThrough x.state && s.passInFlight l && isFull then some .full
  else none

/-- An accepted frame counted in the lane record (R23). -/
def countAccepted (x : Lane) (e : Epoch) : Lane :=
  { x with
    lastAccepted := some e
    counters := { x.counters with micSkips := countUp x.counters.micSkips (skipped x e) } }

/-- An accepted frame counted and placed: queued, or passed through (R23, R24, R25). -/
def State.acceptMic (s : State) (l : LaneId) (f : InFrame) : State :=
  let x := countAccepted (s.lane l) f.epoch
  if passesThrough x.state && !s.passInFlight l then (s.setLane l x).passFrame l f
  else s.setLane l { x with input := x.input ++ [f] }

/-- The occupancies after an accepted MIC FRAME (R23). -/
def occupancies (x : Lane) : List Word := [wordOf x.input.length, wordOf x.output.length]

/-- MIC_FRAME (R22 to R25). -/
def execMicFrame (p : Port) (m : Message) (s : State) : Host.Outcome State Fault Refusal :=
  takeCommand .micFrame p m s fun s => onLane m s fun l =>
    match micRefusal s l (argWord m 0) with
    | some st => refuse st s
    | none =>
      let s' := s.acceptMic l { epoch := argWord m 0, samples := argFrame m 1 }
      answer (occupancies (s'.lane l)) s'

/-- The words of a FETCH response (section 9.8). -/
def fetchWords (f : OutFrame) : List Word := [f.epoch, descriptor f] ++ f.samples.toList

/-- FETCH (R27). -/
def execFetch (p : Port) (m : Message) (s : State) : Host.Outcome State Fault Refusal :=
  takeCommand .fetch p m s fun s => onBoundLane m s fun l =>
    match (s.lane l).output with
    | [] => refuse .empty s
    | f :: rest => answer (fetchWords f) (s.setLane l { s.lane l with output := rest })

/-! ## SET MODE -/

/-- SET MODE RUN (R31). -/
def setModeRun (s : State) (l : LaneId) : Reply :=
  let x := s.lane l
  match x.state with
  | .run => answer [] s
  | .bypass =>
    if s.waiting l .clear || s.clearInFlight l then refuse .busy s
    else answer [] (s.setLane l { x with state := .run, lock := false })
  | .tripped => refuse .wrongState s
  | .lockout => refuse .wrongState s
  | .clearing => refuse .busy s
  | .unbound => refuse .wrongState s

/-- A lane becomes BYPASS, its queued frames passed through at once unless a pass is in flight (R32). -/
def State.enterBypass (s : State) (l : LaneId) : State :=
  let x := s.lane l
  let s' := s.setLane l { x with state := .bypass, guard := endRetry x.guard }
  if s.passInFlight l then s' else s'.flush l

/-- SET MODE BYPASS (R32). -/
def setModeBypass (s : State) (l : LaneId) : Reply :=
  match (s.lane l).state with
  | .bypass => answer [] s
  | .run => answer [] (s.enterBypass l)
  | .tripped => answer [] (s.enterBypass l)
  | .lockout => answer [] (s.enterBypass l)
  | .clearing => refuse .busy s
  | .unbound => refuse .wrongState s

/-- SET_MODE (R30, R31, R32). -/
def execSetMode (p : Port) (m : Message) (s : State) : Host.Outcome State Fault Refusal :=
  takeCommand .setMode p m s fun s => onLane m s fun l =>
    match flagArg m 0 with
    | none => refuse .badArg s
    | some true => setModeRun s l
    | some false => setModeBypass s l

/-! ## BIND and UNBIND -/

/-- The reference set a BIND names: at least one of REF0 to REF2 and nothing else (R33, row 3). -/
def refSetArg (m : Message) (n : Nat) : Option RefSet :=
  if argNat m n = 0 ∨ 8 ≤ argNat m n then none else some (BitVec.ofNat 3 (argNat m n))

/-- A tail of 1 to 32 (R33, R36). -/
def tailArg (m : Message) (n : Nat) : Option Nat :=
  if 1 ≤ argNat m n ∧ argNat m n ≤ 32 then some (argNat m n) else none

/-- BIND (R33, R34). -/
def execBind (p : Port) (m : Message) (s : State) : Host.Outcome State Fault Refusal :=
  takeCommand .bind p m s fun s => onLane m s fun l =>
    if (s.lane l).state ≠ .unbound then refuse .wrongState s
    else
      match refSetArg m 0, tailArg m 1 with
      | some refs, some tail =>
        match s.store.allocate l (refsOf refs) 0 tail with
        | none => refuse .noSpace s
        | some st => answer [] ({ s with store := st }.setLane l (s.boundLane refs tail))
      | _, _ => refuse .badArg s

/-- A SAVE, RESTORE or CLEAR of the lane waits (R35). -/
def State.holdsOffUnbind (s : State) (l : LaneId) : Bool :=
  s.jobInFlight l || s.waiting l .save || s.waiting l .restore || s.waiting l .clear

/-- The effects of an accepted UNBIND (R35), and then the end of each realign whose SHIFT was removed
(R108), in ascending reference order (log 11). -/
def State.unbindLane (s : State) (l : LaneId) : State :=
  let x := s.lane l
  let s1 := s.removeEntries fun e => e.lane == l && e.isShift
  let s2 := { s1 with
    store := s1.store.release l 0, checkpoints := freeStack s1.checkpoints x.guard.stack }
  (s2.setLane l (unboundLane x)).endRealigns (s.shiftingRefs l)

/-- UNBIND (R35). -/
def execUnbind (p : Port) (m : Message) (s : State) : Host.Outcome State Fault Refusal :=
  takeCommand .unbind p m s fun s => onBoundLane m s fun l =>
    if s.holdsOffUnbind l then refuse .busy s else answer [] (s.unbindLane l)

/-! ## RESIZE and RESET LANE -/

/-- The lane record after an accepted RESIZE (R36). -/
def resizedLane (x : Lane) (tail : Nat) : Lane := { x with tail := some tail, cursor := 0 }

/-- The outcome of a RESIZE of a BYPASS lane with no job in flight (R36). -/
def resizeReply (s : State) (l : LaneId) (tail : Nat) : Reply :=
  let x := s.lane l
  if tail = tailOf x then answer [] (s.setLane l (resizedLane x tail))
  else if tailOf x < tail then
    match s.store.allocate l (boundRefs x) (tailOf x) tail with
    | none => refuse .noSpace s
    | some st => answer [] ({ s with store := st }.setLane l (resizedLane x tail))
  else
    answer [] ({ s with store := s.store.release l tail }.setLane l (resizedLane x tail))

/-- RESIZE (R36). -/
def execResize (p : Port) (m : Message) (s : State) : Host.Outcome State Fault Refusal :=
  takeCommand .resize p m s fun s => onLane m s fun l =>
    match tailArg m 0 with
    | none => refuse .badArg s
    | some tail =>
      if (s.lane l).state ≠ .bypass then refuse .wrongState s
      else if s.jobInFlight l then refuse .busy s
      else resizeReply s l tail

/-- A SAVE, RESTORE or SHIFT entry of the lane (R37). -/
def resetRemoves (l : LaneId) (e : MaintEntry) : Bool :=
  e.lane == l && (match e.kind with
    | .clear => false
    | _ => true)

/-- The effects of a RESET LANE (R37), and then the end of each realign whose SHIFT was removed (R108),
in ascending reference order (log 11). -/
def State.clearLane (s : State) (l : LaneId) : State :=
  let s1 := s.removeEntries (resetRemoves l)
  let s2 := s1.setLane l (clearingLane (s.lane l) (s.resetDelays l))
  (s2.request l .clear).endRealigns (s.shiftingRefs l)

/-- RESET_LANE (R37). -/
def execResetLane (p : Port) (m : Message) (s : State) : Host.Outcome State Fault Refusal :=
  takeCommand .resetLane p m s fun s => onBoundLane m s fun l =>
    { status := .queued, payload := [], after := s.clearLane l }

/-! ## LANE STATUS -/

/-- The words of the applied delays, one for each reference (R40). -/
def delayWords (delays : Vector (Option Nat) 3) : List Word := delays.toList.map optWord

/-- The words of the freeze reasons, one for each reference (R40, log 13). -/
def freezeWords (o : Option (Vector (Option Freeze) 3)) : List Word :=
  match o with
  | some v => v.toList.map fun f =>
      match f with
      | some x => freezeCode x
      | none => absentWord
  | none => [absentWord, absentWord, absentWord]

/-- The five lane counters (R40, log 13). -/
def counterWords (o : Option LaneCounters) : List Word :=
  optCounter (o.map fun c => c.micSkips) ++ optCounter (o.map fun c => c.expired)
    ++ optCounter (o.map fun c => c.overruns) ++ optCounter (o.map fun c => c.errorSats)
    ++ optCounter (o.map fun c => c.coeffSats)

/-- The words of a LANE STATUS response for an UNBOUND lane: every field but the state absent (R40). -/
def unboundReport : List Word :=
  [laneStateCode .unbound, absentWord, absentWord] ++ delayWords (Vector.replicate 3 none)
    ++ [absentWord, absentWord] ++ optEpoch none ++ optEpoch none ++ [absentWord]
    ++ freezeWords none ++ [absentWord] ++ counterWords none

/-- The words of a LANE STATUS response for a bound lane (R40). -/
def boundReport (x : Lane) : List Word :=
  [laneStateCode x.state, (x.refs.getD 0).zeroExtend 16, wordOf (tailOf x)] ++ delayWords x.delays
    ++ occupancies x ++ optEpoch (x.inFlight.map fun f => f.epoch) ++ optEpoch x.lastAccepted
    ++ [talkCode x.talk.state] ++ freezeWords x.freeze ++ [flagWord x.lock]
    ++ counterWords (some x.counters)

/-- LANE_STATUS (R40). -/
def execLaneStatus (p : Port) (m : Message) (s : State) : Host.Outcome State Fault Refusal :=
  takeCommand .laneStatus p m s fun s => onLane m s fun l =>
    answer (if (s.lane l).state = .unbound then unboundReport else boundReport (s.lane l)) s

end Sys2Proof.Machine
end

