-- ==== Sys2Proof/Machine/MeterCommands.lean ====
section
/-! DEFINITION. METER CONFIG and METER READ (Chapter 7). -/

namespace Sys2Proof.Machine

/-- The lane record with new meter parameters; the lock flag, the window and the readings stay (R120). -/
def configureMeter (x : Lane) (window lockLevel lowLevel depth : Nat) : Lane :=
  { x with meter := { x.meter with
      window := window, lockLevel := lockLevel, lowLevel := lowLevel, gateDepth := depth } }

/-- METER_CONFIG (R120). -/
def execMeterConfig (p : Port) (m : Message) (s : State) : Host.Outcome State Fault Refusal :=
  takeCommand .meterConfig p m s fun s => onBoundLane m s fun l =>
    let w := tuned m 0 0 5
    let lock := tuned m 1 0 31
    let low := tuned m 2 0 31
    let a := tuned m 3 0 7
    configured (clamped m 0 0 5 || clamped m 1 0 31 || clamped m 2 0 31 || clamped m 3 0 7)
      [wordOf w, wordOf lock, wordOf low, wordOf a]
      (s.setLane l (configureMeter (s.lane l) w lock low a))

/-- The words of two energies and the steps between them (R121, log 15). -/
def readingWords (o : Option Reading) : List Word :=
  optEnergy (o.map fun v => v.mic) ++ optEnergy (o.map fun v => v.out)
    ++ [optWord (o.map fun v => v.steps)]

/-- The words of a METER READ response (R121). -/
def meterReport (x : Lane) : List Word :=
  let m := x.meter
  readingWords m.recent ++ readingWords m.latched
    ++ [wordOf m.windowCode, wordOf m.windowCount, wordOf (4 ^ m.windowCode), m.latches,
        flagWord x.lock, wordOf m.window, wordOf m.lockLevel, wordOf m.lowLevel,
        wordOf m.gateDepth]

/-- METER_READ (R121). -/
def execMeterRead (p : Port) (m : Message) (s : State) : Host.Outcome State Fault Refusal :=
  takeCommand .meterRead p m s fun s => onBoundLane m s fun l => answer (meterReport (s.lane l)) s

end Sys2Proof.Machine
end

