-- ==== Sys2Proof/Machine/NoticeCommands.lean ====
section
/-! DEFINITION. NOTICE READ, NOTICE ARM and NOTICE CONFIG (Chapter 10). -/

namespace Sys2Proof.Machine

/-- Replaces a port's notice state. -/
def State.setNotices (s : State) (p : Port) (n : Notices) : State :=
  s.setPort p { s.port p with notices := n }

/-- The notice state of a port. -/
def State.notices (s : State) (p : Port) : Notices := (s.port p).notices

/-- The notice state after a NOTICE READ: the first 16 entries leave, the port is disarmed, and the line
of LEVEL mode is released (R160, R161). -/
def readNotices (n : Notices) : Notices :=
  { n with
    pending := n.pending.drop Config.noticeBatch, armed := false
    line := match n.mode with
      | .level => .released
      | .pulse => n.line }

/-- The words of an entry: its kind code and its source (R161). -/
def noticeWords (x : Notice) : List Word := [wordOf (noticePriority x.kind), wordOf x.source]

/-- NOTICE_READ (R161). -/
def execNoticeRead (p : Port) (m : Message) (s : State) : Host.Outcome State Fault Refusal :=
  takeCommand .noticeRead p m s fun s =>
    let n := s.notices p
    let taken := n.pending.take Config.noticeBatch
    onZero m s
      (answer
        (wordOf taken.length :: wordOf (readNotices n).pending.length :: taken.flatMap noticeWords)
        (s.setNotices p (readNotices n)))

/-- The notice state after a NOTICE ARM (R160, R162). -/
def armNotices (n : Notices) : Notices :=
  if n.armed then n
  else
    let n' := { n with armed := true }
    match n.mode with
    | .level => { n' with line := levelLine true n.pending }
    | .pulse => if n.pending.isEmpty then n' else drivePulse n'

/-- NOTICE_ARM (R162). -/
def execNoticeArm (p : Port) (m : Message) (s : State) : Host.Outcome State Fault Refusal :=
  takeCommand .noticeArm p m s fun s =>
    let n := s.notices p
    onZero m s (answer [wordOf n.pending.length] (s.setNotices p (armNotices n)))

/-- The notice state after a NOTICE CONFIG: pending entries of kinds not enabled leave, and the line is
set for the new mode and state (R163). -/
def configureNotices (n : Notices) (enabled : BitVec 12) (mode : LineMode) : Notices :=
  let pending := n.pending.filter fun x => kindEnabled { n with enabled := enabled } x.kind
  { enabled := enabled, pending := pending, armed := n.armed, mode := mode, pulses := n.pulses
    line := match mode with
      | .level => levelLine n.armed pending
      | .pulse => .released }

/-- NOTICE_CONFIG (R163). -/
def execNoticeConfig (p : Port) (m : Message) (s : State) : Host.Outcome State Fault Refusal :=
  takeCommand .noticeConfig p m s fun s =>
    onZero m s
      (match flagArg m 1 with
       | none => refuse .badArg s
       | some pulse =>
         if 4096 ≤ argNat m 0 then refuse .badArg s
         else
           let n := configureNotices (s.notices p) (BitVec.ofNat 12 (argNat m 0))
             (if pulse then .pulse else .level)
           answer
             [n.enabled.zeroExtend 16, flagWord pulse, flagWord n.armed, wordOf n.pending.length]
             (s.setNotices p n))

end Sys2Proof.Machine
end

