-- ==== Sys2Proof/Machine/PortEvents.lean ====
section
/-! DEFINITION. The transaction events of a port, an unrecognized kind, and NOP (Chapter 9). -/

namespace Sys2Proof.Machine

/-- TRANSACTION_START: a falling edge of CSN in WAIT, and the words that the master clocks in after it
and that complete no command; CSN is ignored while RESET_N is low (R140, R155). -/
def execTransactionStart (c : ClockedIn) (s : State) : Host.Outcome State Fault Refusal :=
  if (decodeCommand c.port c.words).isSome then .refused .illFormed
  else
    let s := s.beginEvent
    .next
      (if s.resetLow ∨ (s.port c.port).decoder ≠ .wait then s
      else s.setDecoder c.port ((Decoder.command []).clockAll c.words))

/-- The port's truncated counter advances (R143). -/
def State.countTruncated (s : State) (p : Port) : State :=
  s.setPort p { s.port p with truncated := countUp (s.port p).truncated 1 }

/-- The port's unknown counter advances (R146). -/
def State.countUnknown (s : State) (p : Port) : State :=
  s.setPort p { s.port p with unknown := countUp (s.port p).unknown 1 }

/-- The decoder is in COMMAND with at least one whole word and no complete command (R141, R143). -/
def Decoder.isPartial (d : Decoder) (p : Port) : Bool :=
  match d with
  | .command received => !received.isEmpty && (decodeCommand p received).isNone
  | _ => false

/-- TRANSACTION_TRUNCATED: after the words that the row carries, CSN rises in COMMAND with at least one whole
word received and the command not taken (R143). -/
def execTransactionTruncated (c : ClockedIn) (s : State) : Host.Outcome State Fault Refusal :=
  let s := s.beginEvent
  .next
    (if ((s.port c.port).decoder.clockAll c.words).isPartial c.port then
      ((s.setDecoder c.port .wait).countTruncated c.port).raise .portFault (portIndex c.port).val
    else s)

/-- The decoder is in RESPONDING. -/
def Decoder.isResponding : Decoder → Bool
  | .responding _ => true
  | _ => false

/-- RESPONSE_CUT: CSN rises in RESPONDING; the rest of the response is lost (R144). -/
def execResponseCut (p : Port) (s : State) : Host.Outcome State Fault Refusal :=
  let s := s.beginEvent
  .next (if (s.port p).decoder.isResponding then s.setDecoder p .wait else s)

/-- RESPONSE_SENT: the master clocks out words of the turnaround and the response. After the last
response word the decoder is in DRAINING; before it, in RESPONDING with the rest (R141). The words on
SDI are ignored (R140). -/
def execResponseSent (c : ClockedOut) (s : State) : Host.Outcome State Fault Refusal :=
  let s := s.beginEvent
  .next
    (if (s.port c.port).decoder.isResponding then
      s.setDecoder c.port ((s.port c.port).decoder.clockAll (List.replicate c.count 0))
    else s)

/-- TRANSACTION_END: CSN rises in DRAINING, or in COMMAND before the first whole word (R140, R143,
R144). -/
def execTransactionEnd (p : Port) (s : State) : Host.Outcome State Fault Refusal :=
  let s := s.beginEvent
  .next
    (if (s.port p).decoder = .draining ∨ (s.port p).decoder = .command [] then s.setDecoder p .wait
    else s)

/-- UNKNOWN_KIND: a command whose kind code is not in the kind table (R146). -/
def execUnknownKind (p : Port) (code : Byte) (m : Message) (s : State) :
    Host.Outcome State Fault Refusal :=
  if (kindOfCode code).isSome || !m.wellFormed then .refused .illFormed
  else if !(s.port p).decoder.awaits code m then .next s
  else
    .next (((s.beginEvent.countUnknown p).raise .portFault (portIndex p).val).respond p code .unknown
      [])

/-- NOP (R153). -/
def execNop (p : Port) (m : Message) (s : State) : Host.Outcome State Fault Refusal :=
  takeCommand .nop p m s fun s => onZero m s (answer [wordOf (portIndex p).val, s.epoch] s)

end Sys2Proof.Machine
end

