-- ==== Sys2Proof/Machine/RefCommands.lean ====
section
/-! DEFINITION. The commands of the Reference History: DECLARE REF, REF FRAME, REF CONFIG, REF STATUS
and HISTORY READ (Chapter 1). -/

namespace Sys2Proof.Machine

/-- The port that feeds a reference (R10): Port R feeds REF0 and REF1, Port M feeds REF2. -/
def feeds (p : Port) (r : RefId) : Bool :=
  match p with
  | .portR => decide (r.val ≤ 1)
  | .portM => decide (r.val = 2)
  | .portS => false

/-- The port may declare the reference (R7). -/
def mayDeclare (p : Port) (r : RefId) : Bool := p == .portS || feeds p r

/-- A DECLARE REF activate (R8). -/
def State.declareActive (s : State) (r : RefId) : State :=
  if (s.ref r).state = .inactive then s.setRef r (activate (s.ref r) s.epoch) else s

/-- A DECLARE REF deactivate: refused BUSY while the realign is SHIFTING (R9, R100). -/
def declareInactive (s : State) (r : RefId) : Reply :=
  if (s.ref r).state = .inactive then answer [] s
  else if (s.realign r).state = .shifting then refuse .busy s
  else
    answer []
      ((s.setRef r (deactivate (s.ref r))).setTracker r (discardProgress (s.tracker r)))

/-- DECLARE_REF (R7, R8, R9). -/
def execDeclareRef (p : Port) (m : Message) (s : State) : Host.Outcome State Fault Refusal :=
  takeCommand .declareRef p m s fun s => onRef m s fun r =>
    if !mayDeclare p r then refuse .wrongPort s
    else
      match flagArg m 0 with
      | none => refuse .badArg s
      | some true => answer [] (s.declareActive r)
      | some false => declareInactive s r

/-- The LATE refusals counter advances (R10). -/
def State.countLate (s : State) (r : RefId) : State :=
  s.setRef r { s.ref r with lateRefusals := countUp (s.ref r).lateRefusals 1 }

/-- The EARLY refusals counter advances (R10). -/
def State.countEarly (s : State) (r : RefId) : State :=
  s.setRef r { s.ref r with earlyRefusals := countUp (s.ref r).earlyRefusals 1 }

/-- A REF FRAME of epoch `e` checked against the reference in the order of R10's table. -/
def frameReply (s : State) (r : RefId) (e : Epoch) (f : Frame) : Reply :=
  let x := s.ref r
  if x.state = .inactive then refuse .wrongState s
  else if 2 < ahead s.epoch e then refuse .early (s.countEarly r)
  else if (x.wait : Int) ≤ behind s.epoch e ∨ beforeResolution x e then refuse .late (s.countLate r)
  else if holdsGap x e then refuse .late (s.countLate r)
  else if holdsData x e then refuse .duplicate s
  else answer [] (s.acceptReference r e f)

/-- REF_FRAME (R10, R11, R14). -/
def execRefFrame (p : Port) (m : Message) (s : State) : Host.Outcome State Fault Refusal :=
  takeCommand .refFrame p m s fun s => onRef m s fun r =>
    if !feeds p r then refuse .wrongPort s else frameReply s r (argWord m 0) (argFrame m 1)

/-- The reference record after a REF CONFIG (R15, R16). -/
def configureRef (x : Reference) (wait : Nat) (clear : Bool) : Reference :=
  if clear then { x with wait := wait, totalGaps := 0, lateRefusals := 0, earlyRefusals := 0 }
  else { x with wait := wait }

/-- REF_CONFIG (R16). A clamped wait is answered with the value as stored (R150); an answer OK carries
no payload (R149, log 12). -/
def execRefConfig (p : Port) (m : Message) (s : State) : Host.Outcome State Fault Refusal :=
  takeCommand .refConfig p m s fun s => onRef m s fun r =>
    match flagArg m 1 with
    | none => refuse .badArg s
    | some clear =>
      let wait := tuned m 0 1 4
      configured (clamped m 0 1 4) (if clamped m 0 1 4 then [wordOf wait] else [])
        (s.setRef r (configureRef (s.ref r) wait clear))

/-- The words of a REF STATUS response (R17). -/
def refReport (s : State) (r : RefId) : List Word :=
  let x := s.ref r
  [s.epoch, refStateCode x.state, wordOf x.wait] ++ optEpoch x.resolution ++ optEpoch x.newest
    ++ [wordOf x.consecutiveGaps, wordOf x.continuous, x.totalGaps, x.lateRefusals, x.earlyRefusals]

/-- REF_STATUS (R17). -/
def execRefStatus (p : Port) (m : Message) (s : State) : Host.Outcome State Fault Refusal :=
  takeCommand .refStatus p m s fun s => onRef m s fun r => answer (refReport s r) s

/-- The ring address a HISTORY READ begins at (R18). -/
def ringStart (base : Epoch) (displacement : Int) : Nat :=
  ((((base.toNat % 128 * 128 : Nat) : Int) + displacement) % 16384).toNat

/-- The words of a HISTORY READ response of `n` samples from ring address `a` (R19). -/
def historyWords (x : Reference) (a n : Nat) : List Word :=
  [(ringSlot x a).epoch, fillCode (ringSlot x a).fill]
    ++ (List.range n).map fun i => ringSample x ((a + i) % 16384)

/-- HISTORY_READ (R18, R19). -/
def execHistoryRead (p : Port) (m : Message) (s : State) : Host.Outcome State Fault Refusal :=
  takeCommand .historyRead p m s fun s => onRef m s fun r =>
    if argInt m 1 < -16384 ∨ 16383 < argInt m 1 ∨ 255 < argNat m 2 then refuse .badArg s
    else
      answer (historyWords (s.ref r) (ringStart (argWord m 0) (argInt m 1)) (argNat m 2 + 1)) s

end Sys2Proof.Machine
end

