-- ==== Sys2Proof/Machine/ResetEvents.lean ====
section
/-! DEFINITION. Power-on, RESET_N and DEVICE RESET (R1, R49, R58, R154, R155). -/

namespace Sys2Proof.Machine

/-- Every block's power-on values (R2, R3, R20, R49, R58, R94, R95, R131, R158), with the scrubber idle.
The level of RESET_N and the queue of waiting commands are outside the part's blocks and stay. -/
def State.powerOnValues (s : State) : State :=
  { State.reset with
    resetLow := s.resetLow, store := { Store.reset with scrub := none }, pending := s.pending }

/-- The partitions keep their contents until each is scrubbed (R41), and the Checkpoint Store's slots
are not zeroed when they are freed (R131). -/
def State.keepContents (s : State) (old : State) : State :=
  { s with
    store := { s.store with coefs := old.store.coefs }
    checkpoints := { s.checkpoints with slots := old.checkpoints.slots } }

/-- The whole part reset as at power-on, the contents of the two stores kept (R41, R131, R154). -/
def State.resetPart (s : State) : State := s.powerOnValues.keepContents s

/-- POWER_ON: power is applied (R1, R49, R155). -/
def execPowerOn (s : State) : Host.Outcome State Fault Refusal := .next s.powerOnValues

/-- RESET_N_ASSERT: RESET_N goes low. The part is reset, every decoder is in WAIT, the engine and the
scrubber are idle, and the lines are released (R1, R49, R58, R155, R158). -/
def execResetNAssert (s : State) : Host.Outcome State Fault Refusal :=
  .next { s.resetPart with resetLow := true }

/-- RESET_N_RELEASE: RESET_N is released, and an idle scrubber starts on the lowest-numbered SCRUB
partition, which is partition 0 after a reset (R1, R49). -/
def execResetNRelease (s : State) : Host.Outcome State Fault Refusal :=
  let s := { s.beginEvent with resetLow := false }
  .next (if s.store.scrub.isNone then s.startScrubber else s)

/-- The decoder of Port R or Port M at a DEVICE RESET: a transaction in progress is abandoned (R154). -/
def abandoned (d : Decoder) : Decoder :=
  match d with
  | .wait => .wait
  | .command _ => .draining
  | .responding _ => .draining
  | .draining => .draining

/-- The part after a DEVICE RESET, the decoders of Port R and Port M abandoned and the scrubber started
at once; a scrub in progress is abandoned (R49, R154, R164). -/
def State.deviceReset (s : State) : State :=
  { ((s.resetPart.setDecoder .portR (abandoned (s.port .portR).decoder)).setDecoder .portM
      (abandoned (s.port .portM).decoder)).startScrubber with
    scrubAbandoned := s.store.scrub.isSome }

/-- DEVICE_RESET (R154). -/
def execDeviceReset (p : Port) (m : Message) (s : State) : Host.Outcome State Fault Refusal :=
  takeCommand .deviceReset p m s fun s => onZero m s (answer [] s.deviceReset)

end Sys2Proof.Machine
end

