-- ==== Sys2Proof/Machine/StoreCommands.lean ====
section
/-! DEFINITION. The commands of the Coefficient Store: COEFF READ, COEFF WRITE and STORE STATUS
(Chapter 3). -/

namespace Sys2Proof.Machine

/-- The reference and true length of a coefficient transfer: `none` when the reference is outside 0 to 2
or the true length above 8192 (R52, R54, row 2). -/
def transferArgs (m : Message) : Option (RefId × Nat) :=
  if Config.maxTaps < argNat m 2 then none else (refArg m 0).map fun r => (r, argNat m 2)

/-- The argument words of a transfer's response: the moved count, the next start tap and the remaining
true length (R53, R55). -/
def transferWords (start moved remaining : Nat) : List Word :=
  [wordOf moved, wordOf (start + moved), wordOf remaining]

/-- The taps a transfer moves: the least of the true length, 128 and what the chain holds from the start
tap on (R53, R55). -/
def movedTaps (trueLength start taps : Nat) : Nat :=
  min trueLength (min Config.transferTaps (taps - start))

/-- The answer to an accepted COEFF READ (R52, R53). -/
def readReply (s : State) (l : LaneId) (r : RefId) (start trueLength : Nat) : Reply :=
  let taps := 256 * tailOf (s.lane l)
  if taps ≤ start then
    { status := .ended, payload := transferWords start 0 trueLength, after := s }
  else
    let n := movedTaps trueLength start taps
    answer
      (transferWords start n (trueLength - n)
        ++ (List.range n).flatMap fun i => coefWords (s.store.readTap l r (start + i)))
      s

/-- COEFF_READ (R52, R53). -/
def execCoeffRead (p : Port) (m : Message) (s : State) : Host.Outcome State Fault Refusal :=
  takeCommand .coeffRead p m s fun s => onLane m s fun l =>
    match transferArgs m with
    | none => refuse .badArg s
    | some (r, n) =>
      if (s.lane l).state = .unbound then refuse .wrongState s
      else if !(boundRefs (s.lane l)).contains r then refuse .badArg s
      else readReply s l r (argNat m 1) n

/-- The values carried by a COEFF WRITE, `n` of them (R54). -/
def carried (m : Message) (n : Nat) : List Int := (List.range n).map fun i => argLong m (3 + 2 * i)

/-- Values written to a chain from tap `k` on, each saturated to 24 bits (R55). -/
def Store.writeTaps (st : Store) (l : LaneId) (r : RefId) : Nat → List Int → Store
  | _, [] => st
  | k, v :: vs => (st.writeTap l r k (BitVec.ofInt 24 (saturate24 v))).writeTaps l r (k + 1) vs

/-- The values that saturation changes (R55). -/
def saturatedCount (vs : List Int) : Nat := (vs.filter fun v => saturate24 v ≠ v).length

/-- The answer to an accepted COEFF WRITE (R55). -/
def writeReply (s : State) (m : Message) (l : LaneId) (r : RefId) (start trueLength : Nat) : Reply :=
  let x := s.lane l
  let taps := 256 * tailOf x
  if taps ≤ start then
    { status := .ended, payload := transferWords start 0 trueLength, after := s }
  else
    let n := movedTaps trueLength start taps
    let vs := carried m n
    answer (transferWords start n (trueLength - n))
      ({ s with store := s.store.writeTaps l r start vs }.setLane l { x with
        counters := { x.counters with
          coeffSats := countUp x.counters.coeffSats (saturatedCount vs) } })

/-- COEFF_WRITE (R54, R55). -/
def execCoeffWrite (p : Port) (m : Message) (s : State) : Host.Outcome State Fault Refusal :=
  takeCommand .coeffWrite p m s fun s => onLane m s fun l =>
    match transferArgs m with
    | none => refuse .badArg s
    | some (r, n) =>
      if m.payload.length ≠ 3 + 2 * min n Config.transferTaps then refuse .badArg s
      else if (s.lane l).state = .unbound then refuse .wrongState s
      else if !(boundRefs (s.lane l)).contains r then refuse .badArg s
      else if (s.lane l).state ≠ .bypass then refuse .wrongState s
      else if s.jobInFlight l || s.waiting l .clear then refuse .busy s
      else writeReply s m l r (argNat m 1) n

/-- The partition numbers of a chain, in chain order (R57). -/
def chainWords (st : Store) (l : LaneId) (r : RefId) (tail : Nat) : List Word :=
  (List.range tail).map fun j => optWord ((st.partAt l r j).map fun p => p.val)

/-- The words of a STORE STATUS response (R57). The chains of an UNBOUND lane take no word (log 15). -/
def storeReport (s : State) (l : LaneId) : List Word :=
  let free := s.store.freeParts.length
  [wordOf free, wordOf s.store.boundCount, wordOf s.store.scrubParts.length,
   optWord (s.store.scrub.map fun p => p.val), wordOf (min 32 free)]
    ++ (boundRefs (s.lane l)).flatMap fun r =>
        wordOf r.val :: chainWords s.store l r (tailOf (s.lane l))

/-- STORE_STATUS (R57). -/
def execStoreStatus (p : Port) (m : Message) (s : State) : Host.Outcome State Fault Refusal :=
  takeCommand .storeStatus p m s fun s => onLane m s fun l => answer (storeReport s l) s

end Sys2Proof.Machine
end

