-- ==== Sys2Proof/Machine/TalkCommands.lean ====
section
/-! DEFINITION. TALK CONFIG and TALK STATUS (Chapter 5). -/

namespace Sys2Proof.Machine

/-- The lane record with new talk parameters; the talk state and the hangover count stay (R91). -/
def configureTalk (x : Lane) (threshold hang far near : Nat) : Lane :=
  { x with talk := { x.talk with
      threshold := threshold, hang := hang, farFloor := far, nearFloor := near } }

/-- TALK_CONFIG (R91). -/
def execTalkConfig (p : Port) (m : Message) (s : State) : Host.Outcome State Fault Refusal :=
  takeCommand .talkConfig p m s fun s => onBoundLane m s fun l =>
    let t := tuned m 0 1 16
    let h := tuned m 1 0 31
    let far := tuned m 2 0 32767
    let near := tuned m 3 0 32767
    configured
      (clamped m 0 1 16 || clamped m 1 0 31 || clamped m 2 0 32767 || clamped m 3 0 32767)
      [wordOf t, wordOf h, wordOf far, wordOf near]
      (s.setLane l (configureTalk (s.lane l) t h far near))

/-- The words of the last detection; each field is absent together (R92). -/
def detectionWords (o : Option Detection) : List Word :=
  match o with
  | some d => [wordOf d.micPeak, wordOf d.refPeak, flagWord d.farActive, flagWord d.detected]
  | none => [absentWord, absentWord, absentWord, absentWord]

/-- The words of a TALK STATUS response (R92). -/
def talkReport (t : Talk) : List Word :=
  [talkCode t.state, wordOf t.hangover, wordOf t.threshold, wordOf t.hang, wordOf t.farFloor,
   wordOf t.nearFloor] ++ detectionWords t.last

/-- TALK_STATUS (R92). -/
def execTalkStatus (p : Port) (m : Message) (s : State) : Host.Outcome State Fault Refusal :=
  takeCommand .talkStatus p m s fun s => onBoundLane m s fun l =>
    answer (talkReport (s.lane l).talk) s

end Sys2Proof.Machine
end

