-- ==== Sys2Proof/Machine/TrackerCommands.lean ====
section
/-! DEFINITION. SET DELAY, TRACKER CONFIG, TRACKER CLEAR and TRACKER STATUS (Chapter 6). -/

namespace Sys2Proof.Machine

/-- The status of a SET DELAY whose delay was not clamped, by the outcome of the commit (R103). -/
def outcomeStatus : CommitOutcome → Status
  | .pending => .queued
  | .requested => .queued
  | .atOnce => .ok
  | .unchanged => .ok

/-- The answer to a SET DELAY: the delay is committed as a PORT S proposal (R103). -/
def setDelayReply (s : State) (m : Message) (r : RefId) : Reply :=
  let c := s.commit r (tuned m 0 0 1023) .portS
  { status := if clamped m 0 0 1023 then .clamped else outcomeStatus c.2
    payload := [outcomeCode c.2, wordOf (c.1.realign r).target], after := c.1 }

/-- SET_DELAY (R103). -/
def execSetDelay (p : Port) (m : Message) (s : State) : Host.Outcome State Fault Refusal :=
  takeCommand .setDelay p m s fun s => onRef m s fun r => setDelayReply s m r

/-- The tracker's state after a TRACKER CONFIG with the enable and pilot lane sent (R109). The
parameters are set beside it. -/
def retarget (t : Tracker) (enable : Bool) (pilot : LaneId) : Tracker :=
  if !t.enabled then (if enable then disarm t else t)
  else if !enable then { disarm t with state := .off }
  else if pilot ≠ t.pilot then disarm t
  else t

/-- The tracker record after a TRACKER CONFIG (R109). -/
def configureTracker (t : Tracker) (m : Message) (enable : Bool) (pilot : LaneId) : Tracker :=
  { retarget t enable pilot with
    enabled := enable, pilot := pilot, refLevel := tuned m 2 1 32767, quietLevel := tuned m 3 0 32767
    quietNeed := tuned m 4 1 15, micLevel := tuned m 5 1 32767, tolerance := tuned m 6 0 63
    guard := tuned m 7 0 127 }

/-- The eight values of TRACKER CONFIG as stored (R109). -/
def trackerParameters (t : Tracker) : List Word :=
  [flagWord t.enabled, wordOf t.pilot.val, wordOf t.refLevel, wordOf t.quietLevel,
   wordOf t.quietNeed, wordOf t.micLevel, wordOf t.tolerance, wordOf t.guard]

/-- Clamping changed one of the six tuning values of TRACKER CONFIG (R109). -/
def trackerClamped (m : Message) : Bool :=
  clamped m 2 1 32767 || clamped m 3 0 32767 || clamped m 4 1 15 || clamped m 5 1 32767
    || clamped m 6 0 63 || clamped m 7 0 127

/-- TRACKER_CONFIG (R109). -/
def execTrackerConfig (p : Port) (m : Message) (s : State) : Host.Outcome State Fault Refusal :=
  takeCommand .trackerConfig p m s fun s => onRef m s fun r =>
    match flagArg m 0, laneArg m 1 with
    | some enable, some pilot =>
      let t := configureTracker (s.tracker r) m enable pilot
      configured (trackerClamped m) (trackerParameters t) (s.setTracker r t)
    | _, _ => refuse .badArg s

/-- The tracker record after a TRACKER CLEAR (R110). -/
def clearTracker (t : Tracker) : Tracker := { t with lags := [], matchCount := 0, missCount := 0 }

/-- TRACKER_CLEAR (R110). -/
def execTrackerClear (p : Port) (m : Message) (s : State) : Host.Outcome State Fault Refusal :=
  takeCommand .trackerClear p m s fun s => onRef m s fun r =>
    answer [] (s.setTracker r (clearTracker (s.tracker r)))

/-- The words of a pending proposal: delay and origin (R111). -/
def proposalWords (o : Option (Nat × Origin)) : List Word :=
  match o with
  | some (d, origin) => [wordOf d, originCode origin]
  | none => [absentWord, absentWord]

/-- The words of a TRACKER STATUS response (R111, log 15). -/
def trackerReport (s : State) (r : RefId) : List Word :=
  let t := s.tracker r
  let x := s.realign r
  [trackerCode t.state] ++ trackerParameters t ++ [wordOf t.quietCount]
    ++ presentWords 3 (t.onset.map fun o => indexWords o.index ++ [o.epoch])
    ++ wordOf t.lags.length :: t.lags.map wordOf
    ++ [wordOf x.target, realignCode x.state, wordOf (s.shiftsOutstanding r)]
    ++ proposalWords x.proposal
    ++ presentWords 2 (x.lastChange.map fun c => [directionCode c.1, c.2])
    ++ [wordOf x.hold, t.matchCount, t.missCount]

/-- TRACKER_STATUS (R111). -/
def execTrackerStatus (p : Port) (m : Message) (s : State) : Host.Outcome State Fault Refusal :=
  takeCommand .trackerStatus p m s fun s => onRef m s fun r => answer (trackerReport s r) s

end Sys2Proof.Machine
end

