-- ==== Sys2Proof/Machine/Dispatch.lean ====
section
/-! DEFINITION. The dispatch: one arm for each row of the opcode table. -/

namespace Sys2Proof.Machine

/-- A command's or event's effect on everything but the queue of waiting commands. -/
def exec (i : Instr) (s : State) : Host.Outcome State Fault Refusal :=
  match i with
  | .powerOn => Sys2Proof.Machine.execPowerOn s
  | .resetNAssert => Sys2Proof.Machine.execResetNAssert s
  | .resetNRelease => Sys2Proof.Machine.execResetNRelease s
  | .epochAdvance => Sys2Proof.Machine.execEpochAdvance s
  | .epochResolution r => Sys2Proof.Machine.execEpochResolution r s
  | .frameExpiry l => Sys2Proof.Machine.execFrameExpiry l s
  | .lastAcceptedEpochAgeOut l => Sys2Proof.Machine.execLastAcceptedEpochAgeOut l s
  | .retryCountdownEnd l => Sys2Proof.Machine.execRetryCountdownEnd l s
  | .holdCountdownEnd r => Sys2Proof.Machine.execHoldCountdownEnd r s
  | .lastChangeAgeOut r => Sys2Proof.Machine.execLastChangeAgeOut r s
  | .onsetRecordAgeOut r => Sys2Proof.Machine.execOnsetRecordAgeOut r s
  | .lastSaveEpochAgeOut l => Sys2Proof.Machine.execLastSaveEpochAgeOut l s
  | .transactionTruncated c => Sys2Proof.Machine.execTransactionTruncated c s
  | .responseCut p => Sys2Proof.Machine.execResponseCut p s
  | .unknownKind p code m => Sys2Proof.Machine.execUnknownKind p code m s
  | .nop p m => Sys2Proof.Machine.execNop p m s
  | .declareRef p m => Sys2Proof.Machine.execDeclareRef p m s
  | .refFrame p m => Sys2Proof.Machine.execRefFrame p m s
  | .refConfig p m => Sys2Proof.Machine.execRefConfig p m s
  | .refStatus p m => Sys2Proof.Machine.execRefStatus p m s
  | .historyRead p m => Sys2Proof.Machine.execHistoryRead p m s
  | .micFrame p m => Sys2Proof.Machine.execMicFrame p m s
  | .fetch p m => Sys2Proof.Machine.execFetch p m s
  | .setMode p m => Sys2Proof.Machine.execSetMode p m s
  | .bind p m => Sys2Proof.Machine.execBind p m s
  | .unbind p m => Sys2Proof.Machine.execUnbind p m s
  | .resize p m => Sys2Proof.Machine.execResize p m s
  | .resetLane p m => Sys2Proof.Machine.execResetLane p m s
  | .laneStatus p m => Sys2Proof.Machine.execLaneStatus p m s
  | .coeffRead p m => Sys2Proof.Machine.execCoeffRead p m s
  | .coeffWrite p m => Sys2Proof.Machine.execCoeffWrite p m s
  | .storeStatus p m => Sys2Proof.Machine.execStoreStatus p m s
  | .laneConfig p m => Sys2Proof.Machine.execLaneConfig p m s
  | .engineStatus p m => Sys2Proof.Machine.execEngineStatus p m s
  | .talkConfig p m => Sys2Proof.Machine.execTalkConfig p m s
  | .talkStatus p m => Sys2Proof.Machine.execTalkStatus p m s
  | .trackerConfig p m => Sys2Proof.Machine.execTrackerConfig p m s
  | .trackerClear p m => Sys2Proof.Machine.execTrackerClear p m s
  | .setDelay p m => Sys2Proof.Machine.execSetDelay p m s
  | .trackerStatus p m => Sys2Proof.Machine.execTrackerStatus p m s
  | .meterConfig p m => Sys2Proof.Machine.execMeterConfig p m s
  | .meterRead p m => Sys2Proof.Machine.execMeterRead p m s
  | .rearm p m => Sys2Proof.Machine.execRearm p m s
  | .saveCheckpoint p m => Sys2Proof.Machine.execSaveCheckpoint p m s
  | .dropCheckpoints p m => Sys2Proof.Machine.execDropCheckpoints p m s
  | .guardConfig p m => Sys2Proof.Machine.execGuardConfig p m s
  | .guardStatus p m => Sys2Proof.Machine.execGuardStatus p m s
  | .noticeRead p m => Sys2Proof.Machine.execNoticeRead p m s
  | .noticeConfig p m => Sys2Proof.Machine.execNoticeConfig p m s
  | .noticeArm p m => Sys2Proof.Machine.execNoticeArm p m s
  | .deviceReset p m => Sys2Proof.Machine.execDeviceReset p m s
  | .passStart => Sys2Proof.Machine.execPassStart s
  | .maintenanceStart => Sys2Proof.Machine.execMaintenanceStart s
  | .passComplete => Sys2Proof.Machine.execPassComplete s
  | .saveComplete => Sys2Proof.Machine.execSaveComplete s
  | .restoreComplete => Sys2Proof.Machine.execRestoreComplete s
  | .clearComplete => Sys2Proof.Machine.execClearComplete s
  | .shiftComplete => Sys2Proof.Machine.execShiftComplete s
  | .scrubStart => Sys2Proof.Machine.execScrubStart s
  | .scrubComplete => Sys2Proof.Machine.execScrubComplete s
  | .transactionStart c => Sys2Proof.Machine.execTransactionStart c s
  | .responseSent c => Sys2Proof.Machine.execResponseSent c s
  | .transactionEnd p => Sys2Proof.Machine.execTransactionEnd p s

end Sys2Proof.Machine
end

