-- ==== Sys2Proof/Safety.lean ====
section
/-! DEFINITION. The terms the statements are made in: when a command is taken, which kinds share a
target, and the invariants of the part's records. -/

namespace Sys2Proof

/-- The command's target is lane `l`. -/
def Message.names (m : Message) (l : LaneId) : Prop := m.target.toNat = l.val

/-- The command's target is reference `r`. -/
def Message.namesRef (m : Message) (r : RefId) : Prop := m.target.toNat = r.val

end Sys2Proof

namespace Sys2Proof.Machine

/-! ## Taking a command -/

/-- A command of kind `k` with the words `m` is taken on port `p` and passes the port's checks: its
words are complete, the decoder is in COMMAND and awaits the last of them, the kind is open to the port,
and it accepts the declared length (R141, R145). -/
def State.takes (s : State) (k : Kind) (p : Port) (m : Message) : Prop :=
  m.wellFormed = true ∧ (s.port p).decoder.awaits (kindCode k) m = true ∧ openTo k p = true
    ∧ acceptsLength k m.declared.toNat = true

/-- The kinds whose target is a lane (section 9.4). -/
def laneKinds : List Kind :=
  [.micFrame, .fetch, .setMode, .bind, .unbind, .resize, .resetLane, .laneStatus, .coeffRead,
   .coeffWrite, .storeStatus, .laneConfig, .talkConfig, .talkStatus, .meterConfig, .meterRead,
   .rearm, .saveCheckpoint, .dropCheckpoints, .guardConfig, .guardStatus]

/-- The kinds whose target is a reference (section 9.4). -/
def refKinds : List Kind :=
  [.declareRef, .refFrame, .refConfig, .refStatus, .historyRead, .trackerConfig, .trackerClear,
   .setDelay, .trackerStatus]

/-- The kinds whose target must be 0 (section 9.4). -/
def zeroKinds : List Kind :=
  [.nop, .engineStatus, .noticeRead, .noticeConfig, .noticeArm, .deviceReset]

/-- The rows that reset the part: POWER_ON, RESET_N_ASSERT and DEVICE RESET. -/
def isReset : Instr → Bool
  | .powerOn | .resetNAssert | .deviceReset _ _ => true
  | _ => false

/-! ## Invariants -/

/-- What R2 says of a reference record. -/
def Reference.ok (x : Reference) : Prop :=
  1 ≤ x.wait ∧ x.wait ≤ 4 ∧ x.consecutiveGaps ≤ 4 ∧ x.continuous ≤ 255
    ∧ (x.consecutiveGaps = 0 ∨ x.continuous = 0)
    ∧ (x.resolution.isSome ↔ x.state ≠ .inactive)
    ∧ (x.state = .stalled → x.consecutiveGaps = 4)
    ∧ (x.state = .active → x.consecutiveGaps < 4)

/-- Every reference record is as R2 says. -/
def State.refsOk (s : State) : Prop := ∀ r, (s.ref r).ok

/-- What R95 says of a tracker record. -/
def Tracker.ok (t : Tracker) : Prop :=
  (t.state = .off ↔ t.enabled = false) ∧ (t.onset.isSome ↔ t.state = .opened)
    ∧ t.lags.length ≤ 4 ∧ t.quietCount ≤ 15 ∧ (t.state = .off → t.quietCount = 0)

/-- Every tracker record is as R95 says. -/
def State.trackersOk (s : State) : Prop := ∀ r, (s.tracker r).ok

/-- What R20, R83, R122 and R130 say of a lane record. -/
def Lane.ok (x : Lane) : Prop :=
  x.input.length ≤ 4 ∧ x.output.length ≤ 4 ∧ x.guard.stack.length ≤ 4
    ∧ (x.guard.retry.isSome ↔ x.state = .tripped)
    ∧ (0 < x.talk.hangover → x.talk.state = .double)
    ∧ (x.refs = none ↔ x.state = .unbound)
    ∧ (x.state = .unbound → x.input = [] ∧ x.output = [] ∧ x.guard.stack = [])

/-- No waiting entry, no job in flight and no countdown that ends belongs to an UNBOUND lane (R58,
R62). -/
def State.workIsBound (s : State) : Prop :=
  (∀ e ∈ s.engine.queue, (s.lane e.lane).state ≠ .unbound)
    ∧ (∀ j, s.engine.job = some j → (s.lane j.lane).state ≠ .unbound)
    ∧ (∀ l, .retryEnd l ∈ s.due → (s.lane l).state ≠ .unbound)

/-- Every lane record is as the chapters say, and the engine's work is that of bound lanes. -/
def State.lanesOk (s : State) : Prop := (∀ l, (s.lane l).ok) ∧ s.workIsBound

/-- Every FREE partition holds zeros (R48), and the partition being scrubbed is SCRUB (R47). -/
def Store.ok (st : Store) : Prop :=
  (∀ p : PartId, st.map[p] = .free → st.coefs[p] = zeroPartition)
    ∧ ∀ p : PartId, st.scrub = some p → st.map[p] = .scrub

/-- No two waiting entries have the same kind, lane and reference (R60), and the budget is at most 128
(R77). -/
def Engine.ok (e : Engine) : Prop :=
  e.queue.Pairwise (fun a b => a.sameAs b = false) ∧ e.budget ≤ 128

/-- What R158 to R161 say of a port's notice state: the pending set is in reading order with no two
entries alike, holds enabled kinds only, and the line is as the line mode says. -/
def Notices.ok (n : Notices) : Prop :=
  n.pending.Pairwise (fun a b => noticeBefore a b = true)
    ∧ (∀ x ∈ n.pending, kindEnabled n x.kind = true)
    ∧ (n.mode = .level → (n.line = .asserted ↔ n.armed = true ∧ n.pending ≠ []) ∧ n.line ≠ .pulsed)
    ∧ (n.mode = .pulse → n.line ≠ .asserted)

/-- Every port's notice state is as R158 to R161 say. -/
def State.noticesOk (s : State) : Prop := ∀ p, (s.port p).notices.ok

/-- What R94 says of a realign record: SHIFTING exactly while a SHIFT of the reference waits or runs, a
pending proposal only then, and the values in their ranges. -/
def State.realignOk (s : State) (r : RefId) : Prop :=
  ((s.realign r).state = .shifting ↔ 0 < s.shiftsOutstanding r)
    ∧ ((s.realign r).proposal.isSome → (s.realign r).state = .shifting)
    ∧ (∀ d o, (s.realign r).proposal = some (d, o) → d ≤ 1023)
    ∧ (s.realign r).target ≤ 1023 ∧ (s.realign r).hold ≤ 256

/-- Every realign record is as R94 says, in a part whose lanes are as the chapters say. -/
def State.realignsOk (s : State) : Prop := (∀ r, s.realignOk r) ∧ s.lanesOk

end Sys2Proof.Machine
end

