-- ==== Sys2Proof/Certificates/Slice0/Obligations.lean ====
section
/-! DEFINITION. The statements about the part, for the provers. `OBLIGATIONS.json` lists them. In each,
`s.beginEvent` is the state with everything an earlier event made due carried out, an idle engine and an
idle scrubber started where work waits, and earlier pulses ended (logs 3, 4, 17): a command or event acts
on that state. -/

open Sys2Proof Sys2Proof.Machine

/-! ## The step and the taking of commands -/

/-- A step takes the command at the front of the queue and runs it on the state with the queue's rest. -/
def Obligations.StepTakesFrontCommand : Prop :=
  ∀ (c : Instr) (rest : List Instr) (s : State),
    step { s with pending := c :: rest } = exec c { s with pending := rest }

/-- No command changes the queue of waiting commands (log 1). -/
def Obligations.ExecKeepsWaitingCommands : Prop :=
  ∀ (c : Instr) (s t : State), exec c s = .next t → t.pending = s.pending

/-- Every command that is a row of the table has a next state, in every state; a term that is none is
refused by name (log 21). No command faults. -/
def Obligations.EveryCommandCompletes : Prop :=
  ∀ (c : Instr) (s : State),
    (c.wellFormed = true → ∃ t, exec c s = .next t)
      ∧ (c.wellFormed = false → exec c s = .refused .illFormed)

/-- The checks of a command on a port (R145, R147, R148): which kinds each port may send, and WRONG_PORT
for a kind not open to it; BAD_ARG for a declared length the kind does not accept, and no kind accepts
one above 259; BAD_ARG for a target outside its range, a lane above 15, a reference above 2, or a target
that must be 0 and is not. The lengths of every kind are those of section 9.4. A refused command has no
payload and changes nothing but its port's decoder. -/
def Obligations.PortChecksRefuse : Prop :=
  ((∀ k, openTo k .portR = true ↔
        k ∈ [.nop, .declareRef, .refFrame, .refStatus, .historyRead, .laneStatus, .coeffRead,
          .storeStatus, .engineStatus, .talkStatus, .trackerStatus, .meterRead, .guardStatus,
          .noticeRead, .noticeConfig, .noticeArm])
      ∧ (∀ k, openTo k .portM = true ↔
        openTo k .portR = true ∨ k ∈ [.micFrame, .fetch, .setMode])
      ∧ (∀ k, openTo k .portS = true ↔ k ∉ [Kind.micFrame, .fetch])
      ∧ ∀ (k : Kind) (p : Port) (m : Message) (s : State),
          m.wellFormed = true → (s.port p).decoder.awaits (kindCode k) m = true → openTo k p = false →
            exec (instrOfKind k p m) s =
              .next (s.beginEvent.respond p (kindCode k) .wrongPort []))
    ∧ ((∀ k n, acceptsLength k n = true → n ≤ 259)
        ∧ (∀ k n, acceptsLength k n = true ↔
            (n = 0 ∧ k ∈ [.nop, .refStatus, .fetch, .unbind, .resetLane, .laneStatus, .storeStatus,
              .engineStatus, .talkStatus, .trackerClear, .trackerStatus, .meterRead, .rearm,
              .saveCheckpoint, .dropCheckpoints, .guardStatus, .noticeRead, .noticeArm, .deviceReset])
            ∨ (n = 1 ∧ k ∈ [.declareRef, .setMode, .resize, .setDelay])
            ∨ (n = 2 ∧ k ∈ [.refConfig, .bind, .noticeConfig])
            ∨ (n = 3 ∧ k ∈ [.historyRead, .coeffRead, .laneConfig])
            ∨ (n = 4 ∧ k ∈ [.talkConfig, .meterConfig])
            ∨ (n = 8 ∧ k ∈ [.trackerConfig, .guardConfig])
            ∨ (n = 129 ∧ k ∈ [.refFrame, .micFrame])
            ∨ (k = .coeffWrite ∧ ∃ j, 1 ≤ j ∧ j ≤ 129 ∧ n = 2 * j + 1))
        ∧ ∀ (k : Kind) (p : Port) (m : Message) (s : State),
            m.wellFormed = true → (s.port p).decoder.awaits (kindCode k) m = true →
              openTo k p = true → acceptsLength k m.declared.toNat = false →
                exec (instrOfKind k p m) s = .next (s.beginEvent.respond p (kindCode k) .badArg []))
    ∧ ((∀ k : Kind, k ∈ laneKinds ∨ k ∈ refKinds ∨ k ∈ zeroKinds)
        ∧ ∀ (k : Kind) (p : Port) (m : Message) (s : State), s.takes k p m →
            (k ∈ laneKinds → 16 ≤ m.target.toNat →
              exec (instrOfKind k p m) s = .next (s.beginEvent.respond p (kindCode k) .badArg []))
            ∧ (k ∈ refKinds → 3 ≤ m.target.toNat →
              exec (instrOfKind k p m) s = .next (s.beginEvent.respond p (kindCode k) .badArg []))
            ∧ (k ∈ zeroKinds → m.target ≠ 0 →
              exec (instrOfKind k p m) s = .next (s.beginEvent.respond p (kindCode k) .badArg [])))

/-- A refused command has no response payload and changes nothing of the part but its port's decoder
(R149). REF FRAME, which may count a refusal, has its own statement. -/
def Obligations.RefusalsChangeNothing : Prop :=
  ∀ (k : Kind) (p : Port) (m : Message) (s t : State), k ≠ .refFrame →
    (s.port p).decoder.awaits (kindCode k) m = true → exec (instrOfKind k p m) s = .next t →
      ∃ st ws a, t = State.respond a p (kindCode k) st ws
        ∧ (0x10 ≤ (statusCode st).toNat → ws = [] ∧ a = s.beginEvent)

/-- A response already formed stands: no command, completion or epoch advance changes it, except a reset
and the events of its own transaction. -/
def Obligations.FormedResponseStands : Prop :=
  ∀ (c : Instr) (s t : State) (p : Port) (w : List Word),
    (s.port p).decoder = .responding w → isReset c = false →
      (∀ n, c ≠ .responseSent { port := p, count := n }) → c ≠ .responseCut p →
      exec c s = .next t → (t.port p).decoder = .responding w

/-- Who may change what: E moves at an epoch advance and at the resets alone (R1); the lock flag of a
lane is set by the completion of a pass alone (R116); the partition map is changed by BIND, UNBIND,
RESIZE, a scrub's completion and the resets alone (R44, R46, R48); coefficients are changed by COEFF
WRITE, the completions of a PASS, RESTORE, CLEAR, SHIFT and scrub, and POWER_ON alone. That RESET_N and
DEVICE RESET keep them is the model's reading (log 9, DEDUCED); so is POWER_ON's part (log 8). -/
def Obligations.OnlyOwnersChange : Prop :=
  (∀ (c : Instr) (s t : State), c ≠ .epochAdvance → isReset c = false → exec c s = .next t →
      t.epoch = s.epoch)
    ∧ (∀ (c : Instr) (s t : State) (l : LaneId), exec c s = .next t → (s.lane l).lock = false →
        (t.lane l).lock = true → c = .passComplete)
    ∧ (∀ (c : Instr) (s t : State), exec c s = .next t → t.store.map ≠ s.store.map →
        isReset c = true ∨ c = .scrubComplete
          ∨ ∃ p m, c = .bind p m ∨ c = .unbind p m ∨ c = .resize p m)
    ∧ (∀ (c : Instr) (s t : State), exec c s = .next t → t.store.coefs ≠ s.store.coefs →
        c ∈ [.powerOn, .passComplete, .restoreComplete, .clearComplete, .shiftComplete, .scrubComplete]
          ∨ ∃ p m, c = .coeffWrite p m)

/-! ## The ports -/

/-- The decoder of a port. TRANSACTION_START holds the words clocked; RESPONSE_SENT clocks words of the
response out, and after the last one the decoder is DRAINING; RESPONSE_CUT and TRANSACTION_END return it
to WAIT (R140, R141, R144). TRANSACTION_TRUNCATED after at least one whole word, the command not complete,
also counts one more truncation, stopping at 65535, and raises PORT_FAULT with the port as its source
(R143). The model's choice (DESIGN CHOICE, log 6): that TRANSACTION_START and TRANSACTION_TRUNCATED carry
the words clocked in, that RESPONSE_SENT carries a count of the words clocked out and may leave the decoder
in RESPONDING, and which of RESPONSE_CUT, TRANSACTION_TRUNCATED and TRANSACTION_END stands for which rise of
CSN. A command whose kind code is not in the kind table is answered UNKNOWN with no payload and the
code echoed; the unknown counter is one more, stopping at 65535, and PORT_FAULT is raised (R146). Code 0
is not in the table. A response is the turnaround word, the status and the code, the payload length and
the payload; SDO carries its next word, and 0 while none is sent. -/
def Obligations.TransactionEventsTable : Prop :=
  (∀ (p : Port) (s : State), let u := s.beginEvent
      (∀ words, decodeCommand p words = none → u.resetLow = false → (u.port p).decoder = .wait →
        exec (.transactionStart { port := p, words := words }) s =
          .next (u.setDecoder p (.command words)))
      ∧ (∀ w ws, (u.port p).decoder = .responding (w :: ws) →
        (∀ n, exec (.responseSent { port := p, count := n }) s = .next (u.setDecoder p
            (if ws.length < n then .draining else .responding ((w :: ws).drop n))))
          ∧ exec (.responseCut p) s = .next (u.setDecoder p .wait))
      ∧ ((u.port p).decoder = .draining ∨ (u.port p).decoder = .command [] →
        exec (.transactionEnd p) s = .next (u.setDecoder p .wait)))
    ∧ (∀ (p : Port) (s : State) (received words : List Word), let u := s.beginEvent
        (u.port p).decoder = .command received → received ++ words ≠ [] →
        decodeCommand p (received ++ words) = none →
          exec (.transactionTruncated { port := p, words := words }) s = .next
            ((u.setPort p { u.port p with
                decoder := .wait
                truncated := BitVec.ofNat 16 (min 65535 ((u.port p).truncated.toNat + 1)) }).raise
              .portFault (match p with | .portR => 0 | .portM => 1 | .portS => 2)))
    ∧ (kindOfCode 0 = none
        ∧ ∀ (p : Port) (code : Byte) (m : Message) (s : State), let u := s.beginEvent
            kindOfCode code = none → m.wellFormed = true → (s.port p).decoder.awaits code m = true →
              exec (.unknownKind p code m) s = .next
                (((u.setPort p { u.port p with
                    unknown := BitVec.ofNat 16 (min 65535 ((u.port p).unknown.toNat + 1)) }).raise
                  .portFault (match p with | .portR => 0 | .portM => 1 | .portS => 2)).respond
                    p code .unknown []))
    ∧ (∀ (p : Port) (s : State) (code : Byte) (st : Status) (ws : List Word),
        ((s.respond p code st ws).port p).decoder =
          .responding (0 :: (statusCode st ++ code) :: BitVec.ofNat 16 ws.length :: ws))
    ∧ Decoder.wait.sdo = none ∧ (∀ ws, (Decoder.command ws).sdo = some 0)
    ∧ (∀ w ws, (Decoder.responding (w :: ws)).sdo = some w) ∧ Decoder.draining.sdo = some 0

/-- NOP: open to every port, target 0, no payload; the sending port's number and E; no state changed. -/
def Obligations.NopAnswersPortAndEpoch : Prop :=
  (∀ p, openTo .nop p = true) ∧ (∀ n, acceptsLength .nop n = true ↔ n = 0)
    ∧ ∀ (p : Port) (m : Message) (s : State), s.takes .nop p m → let u := s.beginEvent
        exec (.nop p m) s = .next
          (if m.target = 0 then
            u.respond p 0x01 .ok [match p with | .portR => 0 | .portM => 1 | .portS => 2, u.epoch]
          else u.respond p 0x01 .badArg [])

/-! ## Resets -/

/-- The state after reset: E, the references, the realigns, the trackers, the lanes, the partitions, the
engine, the Checkpoint Store and the ports, each field at the value its chapter gives. That the scrubber
has started is the model's choice (log 7), and so are the zero contents of the partitions and of the
checkpoint slots (log 8). POWER_ON sets every block to these values, the scrubber idle (log 7) and the
contents zero (log 8); the level of RESET_N and the waiting commands stay. -/
def Obligations.ResetLeavesGivenValues : Prop :=
  (let s := State.reset;
    s.epoch = 0
      ∧ (∀ r, (s.ref r).state = .inactive ∧ (s.ref r).wait = 2 ∧ (s.ref r).resolution = none
          ∧ (s.ref r).newest = none ∧ (s.ref r).consecutiveGaps = 0 ∧ (s.ref r).continuous = 0
          ∧ (s.ref r).totalGaps = 0 ∧ (s.ref r).lateRefusals = 0 ∧ (s.ref r).earlyRefusals = 0
          ∧ ∀ i : Fin 128, (s.ref r).ring[i] =
              { epoch := 0, fill := .none, samples := Vector.replicate 128 0, peak := 0, energy := 0 })
      ∧ (∀ r, s.realign r =
          { target := 0, state := .idle, proposal := none, lastChange := none, hold := 0 })
      ∧ (∀ r, s.tracker r =
          { state := .off, enabled := false, pilot := 0, refLevel := 4096, quietLevel := 256
            quietNeed := 4, micLevel := 1024, tolerance := 8, guard := 32, quietCount := 0
            onset := none, lags := [], matchCount := 0, missCount := 0 })
      ∧ (∀ l, s.lane l =
          { state := .unbound, refs := none, tail := none, delays := Vector.replicate 3 none
            input := [], inFlight := none, output := [], lastAccepted := none, cursor := 0
            freeze := none, lock := false
            talk :=
              { state := .quiet, hangover := 0, last := none, threshold := 8, hang := 6
                farFloor := 328, nearFloor := 328 }
            meter :=
              { recent := none, windowCode := 2, windowCount := 0, sumM := 0, sumO := 0
                latched := none, latches := 0, window := 2, lockLevel := 6, lowLevel := 3
                gateDepth := 1 }
            guard :=
              { divergence := 0, tripCount := 0, totalTrips := 0, retry := none, lastSave := none
                nextSequence := 0, stack := [], margin := 1, hold := 4, retryDelay := 16
                attempts := 3, saveLevel := 9, saveInterval := 512, span := 2, autoSave := true }
            step := 48, quota := 4, regularize := 20
            counters :=
              { micSkips := 0, expired := 0, overruns := 0, errorSats := 0, coeffSats := 0 } })
      ∧ (∀ p : PartId, s.store.map[p] = .scrub ∧ s.store.coefs[p] = Vector.replicate 256 0)
      ∧ s.store.scrub = some 0
      ∧ s.engine.job = none ∧ s.engine.queue = [] ∧ s.engine.budget = 128 ∧ s.engine.passes = 0
      ∧ (∀ i : SlotId, s.checkpoints.free[i] = true
          ∧ s.checkpoints.slots[i] = Vector.replicate 256 0)
      ∧ ∀ p, (s.port p).decoder = .wait ∧ (s.port p).truncated = 0 ∧ (s.port p).unknown = 0
          ∧ (s.port p).notices =
              { enabled := 0, pending := [], armed := true, mode := .level, line := .released
                pulses := 0 })
    ∧ (∀ s : State, exec .powerOn s = .next
        { State.reset with
          resetLow := s.resetLow, store := { State.reset.store with scrub := none }
          pending := s.pending })

/-- RESET_N_ASSERT resets every block and keeps the contents of the two stores (log 9). While RESET_N is
low, EPOCH_ADVANCE, TRANSACTION_START and SCRUB_START leave the part as it stands. RESET_N_RELEASE
starts an idle scrubber on the lowest-numbered SCRUB partition. After an assertion and a release E is 0
and the scrubber is on partition 0; the first FSYNC rising edge makes E equal to 1, and an edge before
the release is ignored. -/
def Obligations.ResetPinTable : Prop :=
  ((∀ s : State, exec .resetNAssert s = .next
      { State.reset with
        resetLow := true
        store := { State.reset.store with coefs := s.store.coefs, scrub := none }
        checkpoints := { State.reset.checkpoints with slots := s.checkpoints.slots }
        pending := s.pending })
      ∧ ∀ s : State, s.beginEvent.resetLow = true →
          exec .epochAdvance s = .next s.beginEvent ∧ exec .scrubStart s = .next s.beginEvent
            ∧ ∀ p words, decodeCommand p words = none →
                exec (.transactionStart { port := p, words := words }) s = .next s.beginEvent)
    ∧ (∀ s : State, let u := s.beginEvent
        ∃ o, exec .resetNRelease s = .next
            { u with resetLow := false, store := { u.store with scrub := o } }
          ∧ (u.store.scrub ≠ none → o = u.store.scrub)
          ∧ (u.store.scrub = none → ∀ p, o = some p →
              u.store.map[p] = .scrub ∧ ∀ q : PartId, u.store.map[q] = .scrub → p ≤ q)
          ∧ (u.store.scrub = none → o = none → ∀ q : PartId, u.store.map[q] ≠ .scrub))
    ∧ (∀ s t : State, exec .resetNAssert s = .next t →
        exec .epochAdvance t = .next t
          ∧ exec .resetNRelease t = .next
              { t with resetLow := false, store := { t.store with scrub := some 0 } }
          ∧ ∀ u v, exec .resetNRelease t = .next u → exec .epochAdvance u = .next v →
              u.epoch = 0 ∧ v.epoch = 1 ∧ v.resetLow = false)

/-- DEVICE RESET: the part is reset, the two stores keep their contents, the scrubber starts on
partition 0, Port S answers OK with no payload, and the transactions of Port R and Port M are abandoned.
Of the events that fall together with it and are taken after it (R164): a command on Port R or Port M is
not taken, nor the completion of an engine job; the completion of a scrub is not taken where the reset
abandoned one (log 10); and an FSYNC edge makes E equal to 1. -/
def Obligations.DeviceResetResetsThePart : Prop :=
  ∀ (m : Message) (s : State), s.takes .deviceReset .portS m → m.target = 0 →
    let u := s.beginEvent
    ∃ t, exec (.deviceReset .portS m) s = .next t
      ∧ t.epoch = 0 ∧ t.refs = State.reset.refs ∧ t.realigns = State.reset.realigns
      ∧ t.trackers = State.reset.trackers ∧ t.lanes = State.reset.lanes
      ∧ t.engine = State.reset.engine
      ∧ t.store = { map := Vector.replicate 384 .scrub, coefs := u.store.coefs, scrub := some 0 }
      ∧ t.checkpoints = { slots := u.checkpoints.slots, free := Vector.replicate 96 true }
      ∧ (t.port .portS).decoder = .responding (0 :: responseWords .ok 0xE0 [])
      ∧ (∀ p, p ≠ .portS → (t.port p).decoder =
          if (u.port p).decoder = .wait then .wait else .draining)
      ∧ (∀ p, (t.port p).truncated = 0 ∧ (t.port p).unknown = 0
          ∧ (t.port p).notices = Notices.reset)
      ∧ t.resetLow = u.resetLow ∧ t.due = [] ∧ t.pending = u.pending
      ∧ (∀ k p m', p ≠ .portS → m'.wellFormed = true → exec (instrOfKind k p m') t = .next t)
      ∧ (∀ c ∈ [Instr.passComplete, .saveComplete, .restoreComplete, .clearComplete, .shiftComplete],
          exec c t = .next { t with scrubAbandoned := false })
      ∧ (u.store.scrub ≠ none → exec .scrubComplete t = .next { t with scrubAbandoned := false })
      ∧ (u.resetLow = false → ∃ v, exec .epochAdvance t = .next v ∧ v.epoch = 1
          ∧ v.lanes = State.reset.lanes ∧ v.refs = State.reset.refs ∧ v.engine = State.reset.engine
          ∧ v.store = t.store)

/-! ## The epoch advance and its rows -/

/-- EPOCH_ADVANCE: E is one more, wrapping; the budget is 128; a hold countdown and a TRIPPED lane's
retry countdown above 1 count one epoch; every row of the advance is due, a countdown's end where the
countdown stands at 1 (log 20); nothing else changes. -/
def Obligations.EpochAdvanceCountsOne : Prop :=
  ∀ s : State, let u := s.beginEvent
    u.resetLow = false → ∃ t, exec .epochAdvance s = .next t
      ∧ t.epoch.toNat = (u.epoch.toNat + 1) % 65536
      ∧ t.engine = { u.engine with budget := 128 }
      ∧ (∀ r, t.realign r =
          { u.realign r with
            hold := if 1 < (u.realign r).hold then (u.realign r).hold - 1 else (u.realign r).hold })
      ∧ (∀ l, t.lane l = { u.lane l with guard := { (u.lane l).guard with retry :=
          match (u.lane l).guard.retry with
          | some n => if (u.lane l).state = .tripped ∧ 1 < n then some (n - 1) else some n
          | none => none } })
      ∧ (∀ r, .onsetAge r ∈ t.due ∧ .resolve r ∈ t.due ∧ .changeAge r ∈ t.due
          ∧ (.holdEnd r ∈ t.due ↔ (u.realign r).hold = 1))
      ∧ (∀ l, .expire l ∈ t.due ∧ .acceptedAge l ∈ t.due ∧ .saveAge l ∈ t.due
          ∧ (.retryEnd l ∈ t.due ↔
              (u.lane l).state = .tripped ∧ (u.lane l).guard.retry = some 1))
      ∧ t.refs = u.refs ∧ t.trackers = u.trackers ∧ t.store = u.store
      ∧ t.checkpoints = u.checkpoints ∧ t.ports = u.ports ∧ t.resetLow = u.resetLow

/-- EPOCH_RESOLUTION (R12, R13), taken while it is due (log 3). In steady operation (one epoch to resolve) of an enabled reference
whose onset record is not due to age: DATA is left as it is; anything else becomes a gap, counted,
handed to the tracker, and the fourth in a row stalls an ACTIVE reference, raises REF_STALL and leaves an
enabled tracker DISARMED with quiet count 0 and no record (R100). Of any number of epochs, at most 128 (a
change of W lets it be more than one, R16): the onset record that is due to age is aged first (R99); the
resolution point is E − W + 1; every resolved epoch's slot records it with DATA or GAP and no other slot
changes; total gaps grows by the epochs that had no DATA; each such epoch, oldest first, counts one
consecutive gap, stopping at 4, ends the run of continuous frames and is handed to the tracker; where the
count of an ACTIVE reference reaches 4 the reference is STALLED, REF_STALL is raised once, and the tracker
restarts after the gap that stalls. With N already after E − W, or an INACTIVE reference, only the ageing
is made. -/
def Obligations.ResolutionTable : Prop :=
  (∀ (r : RefId) (s : State) (n : Epoch), let x := s.ref r
      .resolve r ∈ s.due → .onsetAge r ∉ s.due → x.state ≠ .inactive → x.resolution = some n →
      n = epochPlus s.epoch (-(x.wait : Int)) →
        let u := { s with due := s.due.filter fun b => b ≠ EpochAction.resolve r }
        let gapped : Reference := { x with
          resolution := some (n + 1)
          ring := x.ring.set (slotOf n)
            { epoch := n, fill := .gap, samples := Vector.replicate 128 0, peak := 0, energy := 0 }
          totalGaps := BitVec.ofNat 16 (min 65535 (x.totalGaps.toNat + 1))
          consecutiveGaps := min 4 (x.consecutiveGaps + 1), continuous := 0 }
        let heard := trackReference (s.tracker r) n (Vector.replicate 128 0) 0
        (holdsData x n = true →
          exec (.epochResolution r) s = .next (u.setRef r { x with resolution := some (n + 1) }))
        ∧ (holdsData x n = false → ¬(x.state = .active ∧ gapped.consecutiveGaps = 4) →
          exec (.epochResolution r) s = .next ((u.setRef r gapped).setTracker r heard))
        ∧ (holdsData x n = false → x.state = .active → gapped.consecutiveGaps = 4 →
          ∃ t, exec (.epochResolution r) s = .next t
            ∧ t.ref r = { gapped with state := .stalled }
            ∧ t.tracker r = (if heard.state = .off then heard
                else { heard with state := .disarmed, quietCount := 0, onset := none })
            ∧ t.ports = (s.raise .refStall r.val).ports
            ∧ t.lanes = s.lanes ∧ t.store = s.store ∧ t.realigns = s.realigns
            ∧ (∀ q, q ≠ r → t.ref q = s.ref q ∧ t.tracker q = s.tracker q)))
    ∧ (∀ (r : RefId) (s : State), let x := s.ref r
        let h := s.tracker r
        let left := { s with due := s.due.filter fun b =>
          b ≠ EpochAction.onsetAge r ∧ b ≠ EpochAction.resolve r }
        let aged : Tracker := match h.onset with
          | some o =>
            if .onsetAge r ∈ s.due ∧ h.state = .opened ∧ 40 < behind s.epoch o.epoch then { h with
              state := .disarmed, quietCount := 0, onset := none
              missCount := BitVec.ofNat 16 (min 65535 (h.missCount.toNat + 1)) }
            else h
          | none => h
        let last := epochPlus s.epoch (-(x.wait : Int))
        .resolve r ∈ s.due →
          (x.state = .inactive ∨ (∃ n, x.resolution = some n ∧ isAfter n last = true) →
            exec (.epochResolution r) s = .next (left.setTracker r aged))
          ∧ ∀ n, x.state ≠ .inactive → x.resolution = some n → isAfter n last = false →
            (last - n).toNat < 128 →
              let epochs := (List.range ((last - n).toNat + 1)).map fun i => n + BitVec.ofNat 16 i
              let gaps := epochs.filter fun p => !holdsData x p
              let stalls := x.state = .active ∧ gaps ≠ [] ∧ 4 ≤ x.consecutiveGaps + gaps.length
              ∃ ring : Vector Slot 128, exec (.epochResolution r) s = .next
                  (((if stalls then left.raise .refStall r.val else left).setRef r { x with
                    state := if stalls then .stalled else x.state
                    resolution := some (last + 1), ring := ring
                    totalGaps := BitVec.ofNat 16 (min 65535 (x.totalGaps.toNat + gaps.length))
                    consecutiveGaps := if gaps = [] then x.consecutiveGaps
                      else min 4 (x.consecutiveGaps + gaps.length)
                    continuous := if gaps = [] then x.continuous else 0 }).setTracker r
                      (gaps.zipIdx.foldl (fun (t : Tracker) (q : Epoch × Nat) =>
                        let t' := trackReference t q.1 (Vector.replicate 128 0) 0
                        if x.state = .active ∧ q.2 = 3 - x.consecutiveGaps ∧ t'.state ≠ .off then
                          { t' with state := .disarmed, quietCount := 0, onset := none }
                        else t') aged))
                ∧ (∀ p ∈ gaps, ring[slotOf p] =
                    { epoch := p, fill := .gap, samples := Vector.replicate 128 0, peak := 0
                      energy := 0 })
                ∧ ∀ i : Fin 128, (∀ p ∈ gaps, i ≠ slotOf p) → ring[i] = x.ring[i])

/-- The other rows of an advance: FRAME_EXPIRY and LAST_ACCEPTED_EPOCH_AGE_OUT (R28), RETRY_COUNTDOWN_END
(R128) and LAST_SAVE_EPOCH_AGE_OUT (R122) of a lane, HOLD_COUNTDOWN_END and LAST_CHANGE_AGE_OUT (R102) and
ONSET_RECORD_AGE_OUT (R99) of a reference. Nothing but the named fields changes. That a row is taken while
it is due is the model's reading (DEDUCED, log 3), and so is that the last step of a countdown is a row of
its own, due at the advance that brings it (DEDUCED, log 20). That the last-save epoch of an UNBOUND lane
goes absent at its age too, which R122 leaves open, is the model's choice (DESIGN CHOICE, log 25). -/
def Obligations.AgeingRowsTable : Prop :=
  (∀ (l : LaneId) (s : State), let x := s.lane l
      let left := fun a : EpochAction => { s with due := s.due.filter fun b => b ≠ a }
      let old := x.input.filter fun f => decide (32 ≤ behind s.epoch f.epoch)
      (.expire l ∈ s.due → exec (.frameExpiry l) s = .next
        (if old = [] then left (.expire l)
        else (((left (.expire l)).setLane l { x with
          input := x.input.filter fun f => !decide (32 ≤ behind s.epoch f.epoch)
          counters := { x.counters with
            expired := BitVec.ofNat 16 (min 65535 (x.counters.expired.toNat + old.length)) } }).raise
              .frameExpired l.val)))
      ∧ (.acceptedAge l ∈ s.due → exec (.lastAcceptedEpochAgeOut l) s = .next
        ((left (.acceptedAge l)).setLane l { x with
          lastAccepted := x.lastAccepted.filter fun e => decide (behind s.epoch e < 1024) }))
      ∧ (.retryEnd l ∈ s.due → exec (.retryCountdownEnd l) s = .next
        ((left (.retryEnd l)).setLane l { x with
          state := .run, lock := false, guard := { x.guard with retry := none } }))
      ∧ (.saveAge l ∈ s.due → exec (.lastSaveEpochAgeOut l) s = .next
        ((left (.saveAge l)).setLane l { x with guard := { x.guard with
          lastSave := x.guard.lastSave.filter fun e => decide (behind s.epoch e < 4096) } })))
    ∧ (∀ (r : RefId) (s : State), let x := s.realign r
        let t := s.tracker r
        let left := fun a : EpochAction => { s with due := s.due.filter fun b => b ≠ a }
        (.holdEnd r ∈ s.due → exec (.holdCountdownEnd r) s = .next
          ((left (.holdEnd r)).setRealign r { x with hold := 0 }))
        ∧ (.changeAge r ∈ s.due → exec (.lastChangeAgeOut r) s = .next
          ((left (.changeAge r)).setRealign r { x with
            lastChange := x.lastChange.filter fun c => decide (behind s.epoch c.2 < 64) }))
        ∧ (.onsetAge r ∈ s.due → ∀ o, t.onset = some o → t.state = .opened →
          exec (.onsetRecordAgeOut r) s = .next
            ((left (.onsetAge r)).setTracker r
              (if 40 < behind s.epoch o.epoch then { t with
                state := .disarmed, quietCount := 0, onset := none
                missCount := BitVec.ofNat 16 (min 65535 (t.missCount.toNat + 1)) }
              else t)))
        ∧ (.onsetAge r ∈ s.due → t.state ≠ .opened →
          exec (.onsetRecordAgeOut r) s = .next (left (.onsetAge r))))

/-! ## The Reference History -/

/-- DECLARE REF (R7, R9): the ports that may declare each reference, the action, and its effect. A
reference that has been deactivated reads as zero to every reader: every sample, peak and energy. -/
def Obligations.DeclareRefTable : Prop :=
  (∀ (p : Port) (m : Message) (s : State) (r : RefId), s.takes .declareRef p m → m.namesRef r →
      let u := s.beginEvent
      let x := u.ref r
      let open' := p = .portS ∨ (p = .portR ∧ (r = 0 ∨ r = 1)) ∨ (p = .portM ∧ r = 2)
      (¬open' → exec (.declareRef p m) s = .next (u.respond p 0x10 .wrongPort []))
      ∧ (open' → 2 ≤ argNat m 0 → exec (.declareRef p m) s = .next (u.respond p 0x10 .badArg []))
      ∧ (open' → argNat m 0 = 1 → exec (.declareRef p m) s = .next
          ((if x.state = .inactive then u.setRef r { x with
              state := .active, ring := Vector.ofFn fun i => { x.ring[i] with fill := .none }
              resolution := some u.epoch, newest := none, consecutiveGaps := 0, continuous := 0 }
            else u).respond p 0x10 .ok []))
      ∧ (open' → argNat m 0 = 0 → x.state = .inactive →
          exec (.declareRef p m) s = .next (u.respond p 0x10 .ok []))
      ∧ (open' → argNat m 0 = 0 → x.state ≠ .inactive → (u.realign r).state = .shifting →
          exec (.declareRef p m) s = .next (u.respond p 0x10 .busy []))
      ∧ (open' → argNat m 0 = 0 → x.state ≠ .inactive → (u.realign r).state = .idle →
          exec (.declareRef p m) s = .next
            (((u.setRef r { x with
                state := .inactive, ring := Vector.ofFn fun i => { x.ring[i] with fill := .none }
                resolution := none, newest := none }).setTracker r
              (if (u.tracker r).state = .off then u.tracker r
               else { u.tracker r with state := .disarmed, quietCount := 0, onset := none })).respond
                p 0x10 .ok [])))
    ∧ (∀ (m : Message) (s t : State) (r : RefId), s.takes .declareRef .portS m → m.namesRef r →
        argNat m 0 = 0 → (s.beginEvent.ref r).state ≠ .inactive →
        (s.beginEvent.realign r).state = .idle → exec (.declareRef .portS m) s = .next t →
          (t.ref r).state = .inactive ∧ (∀ n, readSample (t.ref r) n = 0)
            ∧ ∀ e, readPeak (t.ref r) e = 0 ∧ readEnergy (t.ref r) e = 0)

/-- REF FRAME (R10, R11, R14): the refusals in the order of R10's table, each with the counter it names.
An accepted frame's slot is written whole: the epoch, DATA, the samples, their greatest magnitude and the
sum of their squares. The counts move, a STALLED reference resumes and REF_RESUME is raised, the tracker is
handed the frame, and nothing else changes. -/
def Obligations.RefFrameTable : Prop :=
  (∀ (p : Port) (m : Message) (s : State) (r : RefId), s.takes .refFrame p m → m.namesRef r →
      let u := s.beginEvent
      let x := u.ref r
      let e := argWord m 0
      let feeds' := (p = .portR ∧ (r = 0 ∨ r = 1)) ∨ (p = .portM ∧ r = 2)
      let slot := x.ring[(⟨e.toNat % 128, Nat.mod_lt _ (by decide)⟩ : Fin 128)]
      let late := (x.wait : Int) ≤ behind u.epoch e
        ∨ (∃ n, x.resolution = some n ∧ isAfter n e = true) ∨ (slot.epoch = e ∧ slot.fill = .gap)
      (¬feeds' → exec (.refFrame p m) s = .next (u.respond p 0x11 .wrongPort []))
      ∧ (feeds' → x.state = .inactive →
          exec (.refFrame p m) s = .next (u.respond p 0x11 .wrongState []))
      ∧ (feeds' → x.state ≠ .inactive → 2 < ahead u.epoch e → exec (.refFrame p m) s = .next
          ((u.setRef r { x with
            earlyRefusals := BitVec.ofNat 16 (min 65535 (x.earlyRefusals.toNat + 1)) }).respond
              p 0x11 .early []))
      ∧ (feeds' → x.state ≠ .inactive → ahead u.epoch e ≤ 2 → late → exec (.refFrame p m) s = .next
          ((u.setRef r { x with
            lateRefusals := BitVec.ofNat 16 (min 65535 (x.lateRefusals.toNat + 1)) }).respond
              p 0x11 .late []))
      ∧ (feeds' → x.state ≠ .inactive → ahead u.epoch e ≤ 2 → ¬late →
          slot.epoch = e ∧ slot.fill = .data →
          exec (.refFrame p m) s = .next (u.respond p 0x11 .duplicate [])))
    ∧ (∀ (p : Port) (m : Message) (s : State) (r : RefId), s.takes .refFrame p m → m.namesRef r →
        let u := s.beginEvent
        let x := u.ref r
        let e := argWord m 0
        let f : Frame := Vector.ofFn fun i => m.payload.getD (1 + i.val) 0
        ((p = .portR ∧ (r = 0 ∨ r = 1)) ∨ (p = .portM ∧ r = 2)) → x.state ≠ .inactive →
        ahead u.epoch e ≤ 2 → behind u.epoch e < (x.wait : Int) →
        (∀ n, x.resolution = some n → isAfter n e = false) →
        ¬((slotFor x e).epoch = e ∧ (slotFor x e).fill ≠ .none) →
          ∃ t, exec (.refFrame p m) s = .next t
            ∧ (t.ref r).state = .active ∧ (t.ref r).consecutiveGaps = 0
            ∧ (t.ref r).continuous = min 255 (x.continuous + 1)
            ∧ (t.ref r).newest = some (match x.newest with
                | none => e
                | some d => if isAfter e d = true then e else d)
            ∧ (t.ref r).resolution = x.resolution ∧ (t.ref r).wait = x.wait
            ∧ (t.ref r).totalGaps = x.totalGaps ∧ (t.ref r).lateRefusals = x.lateRefusals
            ∧ (t.ref r).earlyRefusals = x.earlyRefusals
            ∧ (t.ref r).ring[slotOf e] =
                { epoch := e, fill := .data, samples := f, peak := peakOf f, energy := energyOf f }
            ∧ (∀ i : Fin 128, readSample (t.ref r) (sampleIndex e i.val) = (f[i]).toInt)
            ∧ readPeak (t.ref r) e = peakOf f ∧ readEnergy (t.ref r) e = energyOf f
            ∧ (∀ i : Fin 128, i ≠ slotOf e → (t.ref r).ring[i] = x.ring[i])
            ∧ t.tracker r = trackReference (u.tracker r) e f (peakOf f)
            ∧ (∀ q, q ≠ r → t.ref q = u.ref q ∧ t.tracker q = u.tracker q)
            ∧ t.ports = ((if x.state = .stalled then u.raise .refResume r.val else u).respond
                p 0x11 .ok []).ports
            ∧ t.lanes = u.lanes ∧ t.store = u.store ∧ t.realigns = u.realigns ∧ t.engine = u.engine
            ∧ t.checkpoints = u.checkpoints ∧ t.epoch = u.epoch)
    ∧ (∀ (f : Frame) (v : Nat), peakOf f ≤ v ↔ ∀ i : Fin 128, (f[i]).toInt.natAbs ≤ v)
    ∧ ∀ f : Frame, energyOf f =
        ((List.finRange 128).map fun i : Fin 128 => (f[i]).toInt.natAbs ^ 2).sum

/-- REF CONFIG (R16): W clamped to 1 to 4 and stored, the three event counters cleared where the
clear-counters field is 1, and a field other than 0 or 1 refused; the payload of CLAMPED is log 12's.
REF STATUS (R17) reports the ten fields in order, an absent epoch with its presence word 0. -/
def Obligations.RefConfigAndStatus : Prop :=
  (∀ (m : Message) (s : State) (r : RefId), s.takes .refConfig .portS m → m.namesRef r →
      let u := s.beginEvent
      let x := u.ref r
      let w := (max 1 (min 4 (argWord m 0).toInt)).toNat
      (2 ≤ argNat m 1 → exec (.refConfig .portS m) s = .next (u.respond .portS 0x12 .badArg []))
      ∧ ∀ z : Nat, z ≤ 1 → argNat m 1 = z →
          exec (.refConfig .portS m) s = .next
            ((u.setRef r { x with
              wait := w
              totalGaps := if z = 1 then 0 else x.totalGaps
              lateRefusals := if z = 1 then 0 else x.lateRefusals
              earlyRefusals := if z = 1 then 0 else x.earlyRefusals }).respond .portS 0x12
                (if (argWord m 0).toInt = w then .ok else .clamped)
                (if (argWord m 0).toInt = w then [] else [BitVec.ofNat 16 w])))
    ∧ (∀ (p : Port) (m : Message) (s : State) (r : RefId), s.takes .refStatus p m → m.namesRef r →
        let u := s.beginEvent
        let x := u.ref r
        let present := fun o : Option Epoch => match o with
          | some e => [1, e]
          | none => [0, 65535]
        exec (.refStatus p m) s = .next (u.respond p 0x13 .ok
          ([u.epoch, match x.state with | .inactive => 0 | .active => 1 | .stalled => 2,
              BitVec.ofNat 16 x.wait]
            ++ present x.resolution ++ present x.newest
            ++ [BitVec.ofNat 16 x.consecutiveGaps, BitVec.ofNat 16 x.continuous, x.totalGaps,
                x.lateRefusals, x.earlyRefusals])))

/-- HISTORY READ: a displacement outside −16384 to 16383 or a length code above 255 is refused;
otherwise the response holds the epoch and fill of the slot of the first sample and code + 1 stored
samples, at consecutive ring addresses that wrap after 16383. -/
def Obligations.HistoryReadReturnsStoredSamples : Prop :=
  ∀ (p : Port) (m : Message) (s : State) (r : RefId), s.takes .historyRead p m → m.namesRef r →
    let u := s.beginEvent
    let x := u.ref r
    let d := (argWord m 1).toInt
    let code := argNat m 2
    (d < -16384 ∨ 16383 < d ∨ 255 < code →
      exec (.historyRead p m) s = .next (u.respond p 0x14 .badArg []))
    ∧ (-16384 ≤ d → d ≤ 16383 → code ≤ 255 → ∃ ws : List Word,
        exec (.historyRead p m) s = .next (u.respond p 0x14 .ok ws) ∧ ws.length = code + 3
        ∧ ∀ (i : Nat) (a : Fin 16384), i ≤ code →
            ((a.val : Int) - (((argWord m 0).toNat % 128 * 128 : Nat) + d + i)) % 16384 = 0 →
            let slot := x.ring[(⟨a.val / 128, by omega⟩ : Fin 128)]
            ws[i + 2]? = some (slot.samples[(⟨a.val % 128, by omega⟩ : Fin 128)])
              ∧ (i = 0 → ws[0]? = some slot.epoch
                  ∧ ws[1]? = some (fillCode slot.fill)))

/-! ## The Lane Table -/

/-- MIC FRAME refusals, in the order of R22's table; a refused frame changes nothing. -/
def Obligations.MicFrameRefusals : Prop :=
  ∀ (m : Message) (s : State) (l : LaneId), s.takes .micFrame .portM m → m.names l →
    let u := s.beginEvent
    let x := u.lane l
    let e := argWord m 0
    let answers := fun st : Status => exec (.micFrame .portM m) s = .next (u.respond .portM 0x20 st [])
    let open' := x.state ≠ .unbound ∧ x.state ≠ .clearing
    let stale := ∃ n, x.lastAccepted = some n ∧ isAfter e n = false
    (x.state = .unbound → answers .wrongState)
    ∧ (x.state = .clearing → answers .busy)
    ∧ (open' → 2 < ahead u.epoch e → answers .early)
    ∧ (open' → ahead u.epoch e ≤ 2 → 8 < behind u.epoch e → answers .late)
    ∧ (open' → ahead u.epoch e ≤ 2 → behind u.epoch e ≤ 8 → stale → answers .stale)
    ∧ (open' → ahead u.epoch e ≤ 2 → behind u.epoch e ≤ 8 → ¬stale → 4 ≤ x.input.length →
        (x.state = .run ∨ x.state = .tripped ∨ u.passInFlight l = true) → answers .full)

/-- An accepted MIC FRAME (R23 to R26). In RUN or TRIPPED, or in BYPASS or LOCKOUT with a pass of the
lane in flight, it joins the tail of the input queue. In BYPASS or LOCKOUT with no pass in flight it
becomes a PASSTHROUGH output frame; a full output queue first loses its oldest frame, counted and raised
as OUTPUT_OVERRUN, and the tracker of each reference that the lane pilots is handed it, the references
ascending (log 11). Mic skips grows by the
epochs jumped. -/
def Obligations.MicFrameAccepted : Prop :=
  (∀ (m : Message) (s : State) (l : LaneId), s.takes .micFrame .portM m → m.names l →
      let u := s.beginEvent
      let x := u.lane l
      let e := argWord m 0
      let f : InFrame := { epoch := e, samples := Vector.ofFn fun i => m.payload.getD (1 + i.val) 0 }
      (x.state = .run ∨ x.state = .tripped
        ∨ ((x.state = .bypass ∨ x.state = .lockout) ∧ u.passInFlight l = true)) →
      ahead u.epoch e ≤ 2 → behind u.epoch e ≤ 8 →
      (∀ n, x.lastAccepted = some n → isAfter e n = true) → x.input.length < 4 →
        exec (.micFrame .portM m) s = .next
          ((u.setLane l { x with
            input := x.input ++ [f], lastAccepted := some e
            counters := { x.counters with micSkips := BitVec.ofNat 16 (min 65535
              (x.counters.micSkips.toNat + (match x.lastAccepted with
                | some n => ((e - n).toInt - 1).toNat
                | none => 0))) } }).respond .portM 0x20 .ok
              [BitVec.ofNat 16 (x.input.length + 1), BitVec.ofNat 16 x.output.length]))
    ∧ (∀ (m : Message) (s : State) (l : LaneId), s.takes .micFrame .portM m → m.names l →
        let u := s.beginEvent
        let x := u.lane l
        let e := argWord m 0
        let out : OutFrame :=
          { epoch := e, kind := .passthrough, talk := none, gated := false
            samples := Vector.ofFn fun i => m.payload.getD (1 + i.val) 0 }
        let isFull := 4 ≤ x.output.length
        (x.state = .bypass ∨ x.state = .lockout) → u.passInFlight l = false →
        ahead u.epoch e ≤ 2 → behind u.epoch e ≤ 8 →
        (∀ n, x.lastAccepted = some n → isAfter e n = true) →
          ∃ t, exec (.micFrame .portM m) s = .next t
            ∧ t.lane l = { x with
                lastAccepted := some e
                output := (if isFull then x.output.drop 1 else x.output) ++ [out]
                counters := { x.counters with
                  micSkips := BitVec.ofNat 16 (min 65535 (x.counters.micSkips.toNat
                    + (match x.lastAccepted with
                      | some n => ((e - n).toInt - 1).toNat
                      | none => 0)))
                  overruns := if isFull then BitVec.ofNat 16 (min 65535 (x.counters.overruns.toNat + 1))
                    else x.counters.overruns } }
            ∧ (∀ k, k ≠ l → t.lane k = u.lane k)
            ∧ (∀ r, (u.tracker r).pilot ≠ l → t.tracker r = u.tracker r ∧ t.realign r = u.realign r)
            ∧ (∀ r, (u.tracker r).state ≠ .opened → t.tracker r = u.tracker r)
            ∧ ((∀ r, (u.tracker r).state ≠ .opened) → t.realigns = u.realigns ∧ t.engine = u.engine
                ∧ ∀ p, (t.port p).notices =
                    ((if isFull then u.raise .outputOverrun l.val else u).port p).notices)
            ∧ t.refs = u.refs ∧ t.store = u.store ∧ t.checkpoints = u.checkpoints ∧ t.epoch = u.epoch
            ∧ (t.port .portM).decoder = .responding
                [0, 0x0020, 2, BitVec.ofNat 16 x.input.length,
                  BitVec.ofNat 16 ((if isFull then x.output.length - 1 else x.output.length) + 1)]
            ∧ t = (([0, 1, 2].foldl (fun v r =>
                    if (v.tracker r).pilot = l then
                      v.trackMicrophone r e (Vector.ofFn fun i => m.payload.getD (1 + i.val) 0)
                    else v)
                  (if isFull then (u.setLane l (t.lane l)).raise .outputOverrun l.val
                   else u.setLane l (t.lane l))).respond .portM 0x20 .ok
                [BitVec.ofNat 16 x.input.length,
                  BitVec.ofNat 16 ((if isFull then x.output.length - 1 else x.output.length) + 1)]))

/-- FETCH: WRONG_STATE on an UNBOUND lane, EMPTY on an empty output queue, and otherwise the head of the
queue, removed, in the layout of section 9.8. -/
def Obligations.FetchTakesHead : Prop :=
  ∀ (m : Message) (s : State) (l : LaneId), s.takes .fetch .portM m → m.names l →
    let u := s.beginEvent
    let x := u.lane l
    (x.state = .unbound → exec (.fetch .portM m) s = .next (u.respond .portM 0x21 .wrongState []))
    ∧ (x.state ≠ .unbound → x.output = [] →
        exec (.fetch .portM m) s = .next (u.respond .portM 0x21 .empty []))
    ∧ ∀ f rest, x.state ≠ .unbound → x.output = f :: rest → ∃ d : Word,
        exec (.fetch .portM m) s = .next
          ((u.setLane l { x with output := rest }).respond .portM 0x21 .ok
            (f.epoch :: d :: f.samples.toList))
        ∧ d.extractLsb' 8 8 = (match f.kind with | .cancelled => 1 | .passthrough => 2)
        ∧ d.extractLsb' 4 4 = (match f.talk with
            | none => 0 | some .quiet => 1 | some .far => 2 | some .near => 3 | some .double => 4)
        ∧ d.extractLsb' 1 3 = 0 ∧ (d.getLsbD 0 = f.gated)

/-- SET MODE (R30 to R32), by the mode and the lane's state. RUN clears the lock flag of a BYPASS lane
with no CLEAR waiting or running. BYPASS makes a RUN, TRIPPED or LOCKOUT lane BYPASS with its trip count
0 and no retry countdown; with no pass in flight its queued frames are passed through, oldest first, the
output queue keeping the last four, each frame discarded counted and raised as OUTPUT_OVERRUN, and each
frame passed through handed to the tracker of each reference that the lane pilots, the references
ascending (log 11); with one in flight they stay queued. The Maintenance Queue keeps every entry. -/
def Obligations.SetModeTable : Prop :=
  (∀ (p : Port) (m : Message) (s : State) (l : LaneId), s.takes .setMode p m → m.names l →
      let u := s.beginEvent
      let x := u.lane l
      (2 ≤ argNat m 0 → exec (.setMode p m) s = .next (u.respond p 0x22 .badArg []))
      ∧ (argNat m 0 = 1 → exec (.setMode p m) s = .next
          (match x.state with
          | .run => u.respond p 0x22 .ok []
          | .bypass =>
            if (∃ e ∈ u.engine.queue, e = { kind := .clear, lane := l })
                ∨ u.engine.job = some (.clear l) then u.respond p 0x22 .busy []
            else (u.setLane l { x with state := .run, lock := false }).respond p 0x22 .ok []
          | .tripped | .lockout | .unbound => u.respond p 0x22 .wrongState []
          | .clearing => u.respond p 0x22 .busy [])))
    ∧ (∀ (p : Port) (m : Message) (s : State) (l : LaneId), s.takes .setMode p m → m.names l →
        argNat m 0 = 0 →
        let u := s.beginEvent
        let x := u.lane l
        (x.state = .bypass → exec (.setMode p m) s = .next (u.respond p 0x22 .ok []))
        ∧ (x.state = .clearing → exec (.setMode p m) s = .next (u.respond p 0x22 .busy []))
        ∧ (x.state = .unbound → exec (.setMode p m) s = .next (u.respond p 0x22 .wrongState []))
        ∧ ((x.state = .run ∨ x.state = .tripped ∨ x.state = .lockout) → u.passInFlight l = true →
            exec (.setMode p m) s = .next
              ((u.setLane l { x with
                state := .bypass, guard := { x.guard with tripCount := 0, retry := none } }).respond
                  p 0x22 .ok []))
        ∧ ((x.state = .run ∨ x.state = .tripped ∨ x.state = .lockout) → u.passInFlight l = false →
            x.output.length ≤ 4 →
            let all := x.output ++ x.input.map fun f =>
              { epoch := f.epoch, kind := .passthrough, talk := none, gated := false
                samples := f.samples }
            ∃ t, exec (.setMode p m) s = .next t
              ∧ t.lane l = { x with
                  state := .bypass, guard := { x.guard with tripCount := 0, retry := none }, input := []
                  output := all.drop (all.length - 4)
                  counters := { x.counters with overruns := BitVec.ofNat 16 (min 65535
                    (x.counters.overruns.toNat + (all.length - 4))) } }
              ∧ (∀ k, k ≠ l → t.lane k = u.lane k)
              ∧ (∃ more, t.engine.queue = u.engine.queue ++ more) ∧ t.engine.job = u.engine.job
              ∧ t.refs = u.refs ∧ t.store = u.store ∧ t.checkpoints = u.checkpoints
              ∧ (t.port p).decoder = .responding (0 :: responseWords .ok 0x22 []))
        ∧ ((x.state = .run ∨ x.state = .tripped ∨ x.state = .lockout) → u.passInFlight l = false →
            let pass := fun (v : State) (f : InFrame) =>
              let y := v.lane l
              let out : OutFrame :=
                { epoch := f.epoch, kind := .passthrough, talk := none, gated := false
                  samples := f.samples }
              [0, 1, 2].foldl (fun w r => if (w.tracker r).pilot = l then
                  w.trackMicrophone r f.epoch f.samples else w)
                (if 4 ≤ y.output.length then (v.setLane l { y with
                    output := y.output.drop 1 ++ [out]
                    counters := { y.counters with overruns := BitVec.ofNat 16 (min 65535
                      (y.counters.overruns.toNat + 1)) } }).raise .outputOverrun l.val
                  else v.setLane l { y with output := y.output ++ [out] })
            exec (.setMode p m) s = .next ((x.input.foldl pass (u.setLane l { x with
              state := .bypass, guard := { x.guard with tripCount := 0, retry := none }, input := []
            })).respond p 0x22 .ok [])))

/-- BIND (R33, R34, R44): its refusals in order, and an accepted BIND's effect: the lane is BYPASS with
the references, the tail and the target delays and every other field at its first value, and it takes
the lowest-numbered FREE partitions, T to each named reference in ascending order, at ascending
positions; no other map record changes. -/
def Obligations.BindTable : Prop :=
  (∀ (m : Message) (s : State) (l : LaneId), s.takes .bind .portS m → m.names l →
      let u := s.beginEvent
      let set := argNat m 0
      let t' := argNat m 1
      let refs := [0, 1, 2].filter fun r : RefId => set.testBit r.val
      let free := (List.finRange 384).filter fun p : PartId => u.store.map[p] = .free
      let answers := fun st : Status => exec (.bind .portS m) s = .next (u.respond .portS 0x23 st [])
      ((u.lane l).state ≠ .unbound → answers .wrongState)
      ∧ ((u.lane l).state = .unbound → (set = 0 ∨ 8 ≤ set) → answers .badArg)
      ∧ ((u.lane l).state = .unbound → 1 ≤ set → set < 8 → (t' = 0 ∨ 32 < t') → answers .badArg)
      ∧ ((u.lane l).state = .unbound → 1 ≤ set → set < 8 → 1 ≤ t' → t' ≤ 32 →
          free.length < t' * refs.length → answers .noSpace)
      ∧ ((u.lane l).state = .unbound → 1 ≤ set → set < 8 → 1 ≤ t' → t' ≤ 32 →
          t' * refs.length ≤ free.length → ∃ t, exec (.bind .portS m) s = .next t
            ∧ t.lane l = { Lane.reset with
                state := .bypass, refs := some (BitVec.ofNat 3 set), tail := some t'
                delays := Vector.ofFn fun r =>
                  if set.testBit r.val then some (u.realign r).target else none }
            ∧ (∀ k, k ≠ l → t.lane k = u.lane k)
            ∧ t.ports = (u.respond .portS 0x23 .ok []).ports
            ∧ t.store.coefs = u.store.coefs ∧ t.store.scrub = u.store.scrub
            ∧ t.refs = u.refs ∧ t.realigns = u.realigns ∧ t.trackers = u.trackers
            ∧ t.engine = u.engine ∧ t.checkpoints = u.checkpoints ∧ t.epoch = u.epoch))
    ∧ (∀ (m : Message) (s t : State) (l : LaneId), s.takes .bind .portS m → m.names l →
        let u := s.beginEvent
        let set := argNat m 0
        let t' := argNat m 1
        let refs := [0, 1, 2].filter fun r : RefId => set.testBit r.val
        let free := (List.finRange 384).filter fun p : PartId => u.store.map[p] = .free
        (u.lane l).state = .unbound → 1 ≤ set → set < 8 → 1 ≤ t' → t' ≤ 32 →
        t' * refs.length ≤ free.length → exec (.bind .portS m) s = .next t →
          (∀ (i j : Nat) (r : RefId) (p : PartId), refs[i]? = some r → j < t' →
              free[i * t' + j]? = some p → t.store.map[p] = .bound l r j)
            ∧ ∀ p : PartId, p ∉ free.take (t' * refs.length) → t.store.map[p] = u.store.map[p])

/-- UNBIND: BUSY while a job of the lane is in flight or a SAVE, RESTORE or CLEAR of it waits; otherwise
the lane is UNBOUND, its partitions are SCRUB, its slots free, its entries gone, and every other lane is
as it was. After every other effect, in ascending order, each realign whose SHIFT of the lane was removed
ends if no SHIFT of its reference is left (R108, log 11). -/
def Obligations.UnbindReleasesLane : Prop :=
  ∀ (m : Message) (s : State) (l : LaneId), s.takes .unbind .portS m → m.names l →
    let u := s.beginEvent
    let x := u.lane l
    let held := (∃ j, u.engine.job = some j ∧ j.lane = l)
      ∨ ∃ e ∈ u.engine.queue, e.lane = l ∧ (e.kind = .save ∨ e.kind = .restore ∨ e.kind = .clear)
    (x.state = .unbound →
      exec (.unbind .portS m) s = .next (u.respond .portS 0x24 .wrongState []))
    ∧ (x.state ≠ .unbound → held →
      exec (.unbind .portS m) s = .next (u.respond .portS 0x24 .busy []))
    ∧ (x.state ≠ .unbound → ¬held → ∃ t, exec (.unbind .portS m) s = .next t
        ∧ t.lane l = { x with
            state := .unbound, refs := none, tail := none, delays := Vector.replicate 3 none
            input := [], output := [], lastAccepted := none, freeze := none
            guard := { x.guard with tripCount := 0, retry := none, stack := [] } }
        ∧ (∀ k, k ≠ l → t.lane k = u.lane k)
        ∧ (∀ p : PartId, t.store.map[p] =
            if (u.store.map[p]).ownedFrom l 0 = true then .scrub else u.store.map[p])
        ∧ t.store.coefs = u.store.coefs ∧ t.store.scrub = u.store.scrub
        ∧ t.checkpoints.slots = u.checkpoints.slots
        ∧ (∀ i : SlotId, t.checkpoints.free[i] = true ↔
            u.checkpoints.free[i] = true ∨ ∃ e ∈ x.guard.stack, i ∈ e.slots)
        ∧ (∀ e ∈ t.engine.queue, e.lane ≠ l)
        ∧ (∀ e ∈ u.engine.queue, e.lane ≠ l → e ∈ t.engine.queue)
        ∧ t.refs = u.refs ∧ t.trackers = u.trackers ∧ t.epoch = u.epoch
        ∧ (t.port .portS).decoder = .responding (0 :: responseWords .ok 0x24 [])
        ∧ t = (([0, 1, 2].filter fun r : RefId => u.shiftWaiting l r).foldl
            (fun (v : State) r => v.endRealignIfDone r)
            { (u.removeEntries fun e => e.lane == l).setLane l (t.lane l) with
              store := t.store, checkpoints := t.checkpoints }).respond .portS 0x24 .ok [])

/-- RESIZE: a tail outside 1 to 32, a lane not in BYPASS, a job of the lane in flight, and each relation
of the new tail to the old. A longer tail takes the lowest-numbered FREE partitions; a shorter one puts
the partitions past it into SCRUB; the cursor becomes 0. -/
def Obligations.ResizeTable : Prop :=
  ∀ (m : Message) (s : State) (l : LaneId), s.takes .resize .portS m → m.names l →
    let u := s.beginEvent
    let x := u.lane l
    let t' := argNat m 0
    let free := (List.finRange 384).filter fun p : PartId => u.store.map[p] = .free
    let resized := { x with tail := some t', cursor := 0 }
    let answers := fun st : Status => exec (.resize .portS m) s = .next (u.respond .portS 0x25 st [])
    ((t' = 0 ∨ 32 < t') → answers .badArg)
    ∧ (1 ≤ t' → t' ≤ 32 → x.state ≠ .bypass → answers .wrongState)
    ∧ (1 ≤ t' → t' ≤ 32 → x.state = .bypass → (∃ j, u.engine.job = some j ∧ j.lane = l) →
        answers .busy)
    ∧ (1 ≤ t' → t' ≤ 32 → x.state = .bypass → (∀ j, u.engine.job = some j → j.lane ≠ l) →
        (x.tail = some t' → exec (.resize .portS m) s = .next
          ((u.setLane l resized).respond .portS 0x25 .ok []))
        ∧ (∀ t0, x.tail = some t0 → t0 < t' →
            (free.length < (t' - t0) * (boundRefs x).length → answers .noSpace)
            ∧ ((t' - t0) * (boundRefs x).length ≤ free.length →
              ∃ t, exec (.resize .portS m) s = .next t ∧ t.lane l = resized
                ∧ (∀ k, k ≠ l → t.lane k = u.lane k) ∧ t.store.coefs = u.store.coefs
                ∧ t.store.scrub = u.store.scrub
                ∧ (∀ (i j : Nat) (r : RefId) (p : PartId), (boundRefs x)[i]? = some r →
                    j < t' - t0 → free[i * (t' - t0) + j]? = some p →
                    t.store.map[p] = .bound l r (t0 + j))
                ∧ (∀ p : PartId, p ∉ free.take ((t' - t0) * (boundRefs x).length) →
                    t.store.map[p] = u.store.map[p])
                ∧ t.ports = (u.respond .portS 0x25 .ok []).ports ∧ t.engine = u.engine))
        ∧ (∀ t0, x.tail = some t0 → t' < t0 → ∃ t, exec (.resize .portS m) s = .next t
            ∧ t.lane l = resized ∧ (∀ k, k ≠ l → t.lane k = u.lane k)
            ∧ t.store.coefs = u.store.coefs ∧ t.store.scrub = u.store.scrub
            ∧ (∀ p : PartId, t.store.map[p] =
                if (u.store.map[p]).ownedFrom l t' = true then .scrub else u.store.map[p])
            ∧ t.ports = (u.respond .portS 0x25 .ok []).ports ∧ t.engine = u.engine))

/-- RESET LANE in every bound state: QUEUED, the lane CLEARING with its adaptive state reset and its
binding, tuning and checkpoints kept, its SAVE, RESTORE and SHIFT entries removed and a CLEAR of it
waiting; other lanes and every coefficient are as they were. The queue is the entries kept, the CLEAR if
none waited, and behind it only SHIFTs of references whose realign held a pending proposal: after every
other effect, in ascending order, each realign whose SHIFT of the lane was removed ends if no SHIFT of
its reference is left (R108, log 11). -/
def Obligations.ResetLaneClearsLane : Prop :=
  ∀ (m : Message) (s : State) (l : LaneId), s.takes .resetLane .portS m → m.names l →
    let u := s.beginEvent
    let x := u.lane l
    (x.state = .unbound →
      exec (.resetLane .portS m) s = .next (u.respond .portS 0x26 .wrongState []))
    ∧ (x.state ≠ .unbound → ∃ t, exec (.resetLane .portS m) s = .next t
        ∧ t.lane l = { x with
            state := .clearing, input := [], output := [], lastAccepted := none, cursor := 0
            freeze := none, lock := false
            delays := Vector.ofFn fun r =>
              if u.shiftWaiting l r = true then some (u.realign r).target else x.delays[r]
            talk := { x.talk with state := .quiet, hangover := 0, last := none }
            meter := { x.meter with
              recent := none, windowCode := x.meter.window, windowCount := 0, sumM := 0, sumO := 0
              latched := none, latches := 0 }
            guard := { x.guard with
              divergence := 0, tripCount := 0, totalTrips := 0, retry := none }
            counters :=
              { micSkips := 0, expired := 0, overruns := 0, errorSats := 0, coeffSats := 0 } }
        ∧ (∀ k, k ≠ l → t.lane k = u.lane k)
        ∧ { kind := .clear, lane := l } ∈ t.engine.queue
        ∧ { kind := .save, lane := l } ∉ t.engine.queue
        ∧ { kind := .restore, lane := l } ∉ t.engine.queue
        ∧ (∀ e ∈ u.engine.queue, e.lane ≠ l → e ∈ t.engine.queue)
        ∧ t.engine.job = u.engine.job ∧ t.store = u.store ∧ t.checkpoints = u.checkpoints
        ∧ t.refs = u.refs ∧ t.trackers = u.trackers ∧ t.epoch = u.epoch
        ∧ (t.port .portS).decoder = .responding (0 :: responseWords .queued 0x26 [])
        ∧ (let kept := u.engine.queue.filter fun e => !decide (e.lane = l ∧ e.kind ≠ .clear)
          let clear : MaintEntry := { kind := .clear, lane := l }
          let first := if clear ∈ u.engine.queue then kept else kept ++ [clear]
          (∃ more, t.engine.queue = first ++ more ∧ ∀ e ∈ more, ∃ r d, e.kind = .shift r d
              ∧ u.shiftWaiting l r = true ∧ (u.realign r).proposal ≠ none)
          ∧ t = (([0, 1, 2].filter fun r : RefId => u.shiftWaiting l r).foldl
              (fun (v : State) r => v.endRealignIfDone r)
              { u.setLane l (t.lane l) with engine := { u.engine with queue := first } }).respond
                .portS 0x26 .queued []))

/-- LANE STATUS of a bound lane, word by word, and the state alone of an UNBOUND lane: its report does
not depend on any other field. The carrying of absent fields is log 13's. -/
def Obligations.LaneStatusReports : Prop :=
  ∀ (p : Port) (m : Message) (s : State) (l : LaneId), s.takes .laneStatus p m → m.names l →
    let u := s.beginEvent
    let x := u.lane l
    let present := fun o : Option Epoch => match o with
      | some e => [1, e]
      | none => [0, 65535]
    let freeze : List Word := match x.freeze with
      | none => [65535, 65535, 65535]
      | some v => v.toList.map fun o => match o with
        | none => 65535
        | some .adapting => 0
        | some .mode => 1
        | some .stepZero => 2
        | some .refInactive => 3
        | some .refStalled => 4
        | some .refill => 5
        | some .talk => 6
        | some .shiftPending => 7
    (x.state ≠ .unbound → exec (.laneStatus p m) s = .next (u.respond p 0x27 .ok
        (([match x.state with
            | .unbound => 0 | .clearing => 1 | .bypass => 2 | .run => 3 | .tripped => 4 | .lockout => 5,
          (x.refs.getD 0).zeroExtend 16, BitVec.ofNat 16 (x.tail.getD 0)] : List Word)
          ++ x.delays.toList.map (fun d => match d with
              | some n => BitVec.ofNat 16 n
              | none => (65535 : Word))
          ++ [BitVec.ofNat 16 x.input.length, BitVec.ofNat 16 x.output.length]
          ++ present (x.inFlight.map fun f => f.epoch) ++ present x.lastAccepted
          ++ ([match x.talk.state with | .quiet => 1 | .far => 2 | .near => 3 | .double => 4] : List Word)
          ++ freeze ++ ([if x.lock then 1 else 0] : List Word)
          ++ [1, x.counters.micSkips, 1, x.counters.expired, 1, x.counters.overruns,
              1, x.counters.errorSats, 1, x.counters.coeffSats])))
    ∧ (x.state = .unbound → exec (.laneStatus p m) s = .next (u.respond p 0x27 .ok
        ([0, 65535, 65535, 65535, 65535, 65535, 65535, 65535, 0, 65535, 0, 65535, 65535, 65535, 65535,
          65535, 65535, 0, 65535, 0, 65535, 0, 65535, 0, 65535, 0, 65535])))

/-! ## The Coefficient Store -/

/-- COEFF READ: its refusals in the order of R52, END at or past the end of the chain, and otherwise the
moved count, the next start tap, the remaining true length and the taps, each in two words, high word
first, extended with its sign. -/
def Obligations.CoeffReadMovesTaps : Prop :=
  ∀ (p : Port) (m : Message) (s : State) (l : LaneId), s.takes .coeffRead p m → m.names l →
    let u := s.beginEvent
    let x := u.lane l
    let start := argNat m 1
    let n := argNat m 2
    let answers := fun st : Status => exec (.coeffRead p m) s = .next (u.respond p 0x30 st [])
    ((3 ≤ argNat m 0 ∨ 8192 < n) → answers .badArg)
    ∧ (argNat m 0 < 3 → n ≤ 8192 → x.state = .unbound → answers .wrongState)
    ∧ ∀ r : RefId, argNat m 0 = r.val → n ≤ 8192 → x.state ≠ .unbound →
        (r ∉ boundRefs x → answers .badArg)
        ∧ ∀ t0, r ∈ boundRefs x → x.tail = some t0 →
          (256 * t0 ≤ start → exec (.coeffRead p m) s = .next
            (u.respond p 0x30 .ended [0, BitVec.ofNat 16 start, BitVec.ofNat 16 n]))
          ∧ (start < 256 * t0 → ∃ ws : List Word,
              let moved := min n (min 128 (256 * t0 - start))
              exec (.coeffRead p m) s = .next (u.respond p 0x30 .ok
                (BitVec.ofNat 16 moved :: BitVec.ofNat 16 (start + moved)
                  :: BitVec.ofNat 16 (n - moved) :: ws))
              ∧ ws.length = 2 * moved
              ∧ ∀ i, i < moved → ∃ hi lo, ws[2 * i]? = some hi ∧ ws[2 * i + 1]? = some lo
                  ∧ (hi ++ lo : BitVec 32).toInt = (u.store.readTap l r (start + i)).toInt)

/-- COEFF WRITE (R54, R55): its refusals in order, and an accepted one: each value that fits the chain
is written saturated to 24 bits and reads back so, every other tap of every chain keeps its value, the
values that saturation changes are counted, and the map is not changed. The chain has all its positions. -/
def Obligations.CoeffWriteTable : Prop :=
  (∀ (m : Message) (s : State) (l : LaneId), s.takes .coeffWrite .portS m → m.names l →
      let u := s.beginEvent
      let x := u.lane l
      let n := argNat m 2
      let answers := fun st : Status => exec (.coeffWrite .portS m) s = .next (u.respond .portS 0x31 st [])
      let argsOk := argNat m 0 < 3 ∧ n ≤ 8192 ∧ m.payload.length = 3 + 2 * min n 128
      let held := (∃ j, u.engine.job = some j ∧ j.lane = l)
        ∨ { kind := .clear, lane := l } ∈ u.engine.queue
      (¬argsOk → answers .badArg)
      ∧ (argsOk → x.state = .unbound → answers .wrongState)
      ∧ ∀ r : RefId, argsOk → argNat m 0 = r.val → x.state ≠ .unbound →
          (r ∉ boundRefs x → answers .badArg)
          ∧ (r ∈ boundRefs x → x.state ≠ .bypass → answers .wrongState)
          ∧ (r ∈ boundRefs x → x.state = .bypass → held → answers .busy)
          ∧ ∀ t0, r ∈ boundRefs x → x.state = .bypass → ¬held → x.tail = some t0 →
              256 * t0 ≤ argNat m 1 → exec (.coeffWrite .portS m) s = .next
                (u.respond .portS 0x31 .ended [0, argWord m 1, argWord m 2]))
    ∧ (∀ (m : Message) (s : State) (l : LaneId) (r : RefId) (t0 : Nat),
        s.takes .coeffWrite .portS m → m.names l → argNat m 0 = r.val →
        let u := s.beginEvent
        let x := u.lane l
        let start := argNat m 1
        let n := argNat m 2
        let moved := min n (min 128 (256 * t0 - start))
        let value := fun i : Nat =>
          (m.payload.getD (3 + 2 * i) 0 ++ m.payload.getD (3 + 2 * i + 1) 0 : BitVec 32).toInt
        let clampedTo := fun v : Int => max (-8388608) (min 8388607 v)
        n ≤ 8192 → m.payload.length = 3 + 2 * min n 128 → x.state = .bypass → r ∈ boundRefs x →
        x.tail = some t0 → start < 256 * t0 → (∀ j, u.engine.job = some j → j.lane ≠ l) →
        { kind := .clear, lane := l } ∉ u.engine.queue →
        (∀ j, j < t0 → (u.store.partAt l r j).isSome) →
          ∃ t, exec (.coeffWrite .portS m) s = .next t
            ∧ (t.port .portS).decoder = .responding (0 :: responseWords .ok 0x31
                [BitVec.ofNat 16 moved, BitVec.ofNat 16 (start + moved), BitVec.ofNat 16 (n - moved)])
            ∧ (∀ i, i < moved → (t.store.readTap l r (start + i)).toInt = clampedTo (value i))
            ∧ (∀ k, k < start ∨ start + moved ≤ k → t.store.readTap l r k = u.store.readTap l r k)
            ∧ (∀ (l' : LaneId) (r' : RefId) k, ¬(l' = l ∧ r' = r) →
                t.store.readTap l' r' k = u.store.readTap l' r' k)
            ∧ t.store.map = u.store.map ∧ t.store.scrub = u.store.scrub
            ∧ t.lane l = { x with counters := { x.counters with coeffSats := BitVec.ofNat 16 (min 65535
                (x.counters.coeffSats.toNat
                  + ((List.range moved).filter fun i => decide (clampedTo (value i) ≠ value i)).length)) } }
            ∧ (∀ k, k ≠ l → t.lane k = u.lane k)
            ∧ t.engine = u.engine ∧ t.checkpoints = u.checkpoints)

/-- STORE STATUS: the three counts, which add up to 384, the partition being scrubbed, the largest
one-reference tail, and for each bound reference its number and the partitions of its chain, in chain
order (R43, R57). An UNBOUND lane has no bound reference and no chain words (log 15). -/
def Obligations.StoreStatusCountsThePool : Prop :=
  ∀ (p : Port) (m : Message) (s : State) (l : LaneId), s.takes .storeStatus p m → m.names l →
    let u := s.beginEvent
    let count := fun f : PartRecord → Bool =>
      ((List.finRange 384).filter fun i : PartId => f u.store.map[i]).length
    let free := count fun x => x == .free
    let bound := count fun x => x.isBound
    let scrub := count fun x => x == .scrub
    let number := fun o : Option PartId => match o with
      | some i => BitVec.ofNat 16 i.val
      | none => (65535 : Word)
    free + bound + scrub = 384
      ∧ exec (.storeStatus p m) s = .next (u.respond p 0x32 .ok
        (BitVec.ofNat 16 free :: BitVec.ofNat 16 bound :: BitVec.ofNat 16 scrub
          :: number u.store.scrub :: BitVec.ofNat 16 (min 32 free)
          :: (boundRefs (u.lane l)).flatMap fun r => BitVec.ofNat 16 r.val
            :: (List.range ((u.lane l).tail.getD 0)).map fun j => number (u.store.partAt l r j)))
      ∧ (∀ r j i, u.store.partAt l r j = some i → u.store.map[i] = .bound l r j)
      ∧ ∀ r j, u.store.partAt l r j = none → ∀ i : PartId, u.store.map[i] ≠ .bound l r j

/-- SCRUB_START: the idle scrubber starts on the lowest-numbered SCRUB partition. SCRUB_COMPLETE: that
partition is FREE with 256 zeros, and the scrubber starts on the lowest-numbered SCRUB partition left,
or is idle. Nothing else changes. A scrub starts so before any other event is taken (log 4). Right after
a DEVICE RESET that abandoned a scrub, SCRUB_COMPLETE is that scrub's, and is not taken (log 10). -/
def Obligations.ScrubberTakesLowest : Prop :=
  ∀ s : State, let u := s.beginEvent
    let w := s.beginScrub
    let lowest := fun (st : Store) (o : Option PartId) =>
      (∀ p, o = some p → st.map[p] = .scrub ∧ ∀ q : PartId, st.map[q] = .scrub → p ≤ q)
        ∧ (o = none → ∀ q : PartId, st.map[q] ≠ .scrub)
    (w.resetLow = false → w.store.scrub = none →
      ∃ o, exec .scrubStart s = .next { w with store := { w.store with scrub := o } }
        ∧ u = { w with store := { w.store with scrub := o } } ∧ lowest w.store o)
    ∧ (s.scrubAbandoned = true → exec .scrubComplete s = .next u)
    ∧ ∀ p, u.store.scrub = some p → s.scrubAbandoned = false →
        ∃ st, exec .scrubComplete s = .next { u with store := st }
        ∧ st.map[p] = .free ∧ st.coefs[p] = Vector.replicate 256 0
        ∧ (∀ q : PartId, q ≠ p → st.map[q] = u.store.map[q] ∧ st.coefs[q] = u.store.coefs[q])
        ∧ lowest st st.scrub

/-! ## The Filter Engine -/

/-- LANE CONFIG, TALK CONFIG and METER CONFIG in every bound state: each value is clamped to its range
and stored, the answer holds the values as stored, CLAMPED if one was changed; nothing else changes. -/
def Obligations.LaneTuningStored : Prop :=
  ∀ (m : Message) (s : State) (l : LaneId), m.names l →
    let u := s.beginEvent
    let x := u.lane l
    let v := fun (n : Nat) (lo hi : Int) => (max lo (min hi (argWord m n).toInt)).toNat
    let word := fun (n : Nat) (lo hi : Int) => BitVec.ofNat 16 (v n lo hi)
    let kept := fun (n : Nat) (lo hi : Int) => decide (lo ≤ (argWord m n).toInt ∧ (argWord m n).toInt ≤ hi)
    (s.takes .laneConfig .portS m → exec (.laneConfig .portS m) s = .next
      (if x.state = .unbound then u.respond .portS 0x40 .wrongState []
      else (u.setLane l { x with
        step := v 0 0 255, quota := v 1 1 16, regularize := v 2 16 31 }).respond .portS 0x40
          (if kept 0 0 255 && kept 1 1 16 && kept 2 16 31 then .ok else .clamped)
          [word 0 0 255, word 1 1 16, word 2 16 31]))
    ∧ (s.takes .talkConfig .portS m → exec (.talkConfig .portS m) s = .next
      (if x.state = .unbound then u.respond .portS 0x50 .wrongState []
      else (u.setLane l { x with talk := { x.talk with
        threshold := v 0 1 16, hang := v 1 0 31, farFloor := v 2 0 32767
        nearFloor := v 3 0 32767 } }).respond .portS 0x50
          (if kept 0 1 16 && kept 1 0 31 && kept 2 0 32767 && kept 3 0 32767 then .ok else .clamped)
          [word 0 1 16, word 1 0 31, word 2 0 32767, word 3 0 32767]))
    ∧ (s.takes .meterConfig .portS m → exec (.meterConfig .portS m) s = .next
      (if x.state = .unbound then u.respond .portS 0x70 .wrongState []
      else (u.setLane l { x with meter := { x.meter with
        window := v 0 0 5, lockLevel := v 1 0 31, lowLevel := v 2 0 31
        gateDepth := v 3 0 7 } }).respond .portS 0x70
          (if kept 0 0 5 && kept 1 0 31 && kept 2 0 31 && kept 3 0 7 then .ok else .clamped)
          [word 0 0 5, word 1 0 31, word 2 0 31, word 3 0 7]))

/-- ENGINE STATUS: the job (log 14's layout), the queue with its length first, the budget, the passes
completed, the ready lanes as a set with bit n for lane n, and the six port counters. -/
def Obligations.EngineStatusReports : Prop :=
  ∀ (p : Port) (m : Message) (s : State), s.takes .engineStatus p m → m.target = 0 →
    let u := s.beginEvent
    ∃ (job entries : List Word) (ready : Word),
      exec (.engineStatus p m) s = .next (u.respond p 0x41 .ok
        (job ++ BitVec.ofNat 16 u.engine.queue.length :: entries
          ++ [BitVec.ofNat 16 u.engine.budget, u.engine.passes, ready,
              (u.port .portR).truncated, (u.port .portR).unknown, (u.port .portM).truncated,
              (u.port .portM).unknown, (u.port .portS).truncated, (u.port .portS).unknown]))
      ∧ job = (match u.engine.job with
          | none => [0, 65535, 65535]
          | some (.pass inputs _) =>
            [1, 1, BitVec.ofNat 16 inputs.lane.val, inputs.frame.epoch]
          | some (.save l _ _ _) => [1, 2, BitVec.ofNat 16 l.val]
          | some (.restore l _ _) => [1, 3, BitVec.ofNat 16 l.val]
          | some (.clear l) => [1, 4, BitVec.ofNat 16 l.val]
          | some (.shift l r d _) =>
            [1, 5, BitVec.ofNat 16 l.val, BitVec.ofNat 16 r.val, BitVec.ofInt 16 d])
      ∧ entries = u.engine.queue.flatMap (fun e => match e.kind with
          | .save => [2, BitVec.ofNat 16 e.lane.val]
          | .restore => [3, BitVec.ofNat 16 e.lane.val]
          | .clear => [4, BitVec.ofNat 16 e.lane.val]
          | .shift r d => [5, BitVec.ofNat 16 e.lane.val, BitVec.ofNat 16 r.val, BitVec.ofInt 16 d])
      ∧ ∀ l : LaneId, ready.getLsbD l.val = u.ready l

/-- A lane is ready by the four conditions of R63. PASS_START with the engine idle, no entry waiting and
a lane ready: the pass is of a ready lane whose head frame is oldest, the lowest-numbered among equals;
the head frame moves in flight; the grant is the least of the effective quota, the budget and the
adapting partitions, taken from the budget; and the tracker of each reference that the lane pilots is
handed the frame, the references ascending (log 11). Every other event finds the same pass started
before it (R65, log 4). -/
def Obligations.PassStartTakesOldestLane : Prop :=
  (∀ (u : State) (l : LaneId), let x := u.lane l
      u.ready l = true ↔
        (x.state = .run ∨ x.state = .tripped) ∧ (∀ j, u.engine.job = some j → j.lane ≠ l)
        ∧ (∀ e ∈ u.engine.queue, e.lane ≠ l)
        ∧ ∃ f rest, x.input = f :: rest ∧ ∀ r ∈ boundRefs x, (u.ref r).state = .active →
            let slot := (u.ref r).ring[(⟨f.epoch.toNat % 128, Nat.mod_lt _ (by decide)⟩ : Fin 128)]
            (slot.epoch = f.epoch ∧ (slot.fill = .data ∨ slot.fill = .gap))
              ∨ ((u.ref r).wait : Int) ≤ behind u.epoch f.epoch)
    ∧ ∀ (s : State) (k : LaneId), let u := s.beginStart
    let age := fun l : LaneId => match (u.lane l).input with
      | f :: _ => behind u.epoch f.epoch
      | [] => 0
    u.engine.job = none → u.engine.queue = [] → u.ready k = true →
      ∃ (l : LaneId) (f : InFrame) (rest : List InFrame) (t : State) (inputs : PassInputs) (grant : Nat),
        exec .passStart s = .next t ∧ u.ready l = true
        ∧ (∀ l', u.ready l' = true → age l' ≤ age l)
        ∧ (∀ l', u.ready l' = true → age l' = age l → l ≤ l')
        ∧ (u.lane l).input = f :: rest
        ∧ t.lane l = { u.lane l with input := rest, inFlight := some f }
        ∧ (∀ l', l' ≠ l → t.lane l' = u.lane l')
        ∧ t.engine.job = some (.pass inputs grant)
        ∧ inputs.lane = l ∧ inputs.frame = f ∧ inputs.record = u.lane l ∧ inputs.refs = u.refs
        ∧ (∀ r ∈ boundRefs (u.lane l), inputs.chains[r] =
            (List.range ((u.lane l).tail.getD 0)).map fun j => u.store.readPart l r j)
        ∧ grant = min (if (u.lane l).lock then (u.lane l).quota else min 16 (2 * (u.lane l).quota))
            (min u.engine.budget ((u.lane l).tail.getD 0 * inputs.adapting.length))
        ∧ t.engine.budget = u.engine.budget - grant ∧ t.engine.passes = u.engine.passes
        ∧ t.store = u.store ∧ t.refs = u.refs ∧ t.checkpoints = u.checkpoints ∧ t.epoch = u.epoch
        ∧ (∀ r, (u.tracker r).pilot ≠ l → t.tracker r = u.tracker r ∧ t.realign r = u.realign r)
        ∧ (∀ r, (u.tracker r).state ≠ .opened → t.tracker r = u.tracker r)
        ∧ ((∀ r, (u.tracker r).state ≠ .opened) → t.realigns = u.realigns ∧ t.ports = u.ports
            ∧ t.engine.queue = u.engine.queue)
        ∧ (∀ p, (t.port p).decoder = (u.port p).decoder)
        ∧ t = [0, 1, 2].foldl (fun v r =>
            if (v.tracker r).pilot = l then v.trackMicrophone r f.epoch f.samples else v)
            { u.setLane l { u.lane l with input := rest, inFlight := some f } with
              engine := { u.engine with
                job := some (.pass inputs grant), budget := u.engine.budget - grant } }
        ∧ s.beginScrub = t.endPulses ∧ s.beginEvent.engine = t.engine

/-- MAINTENANCE_START with the engine idle: the oldest entry starts, and the others keep their order.
Nothing else changes. A RESTORE reads the slots of the top entry: those of each bound reference, in chain
order, S′ to a reference (R130, R135). Every other event finds the same job started before it (R65,
log 4). -/
def Obligations.MaintenanceStartTakesOldest : Prop :=
  ∀ (s : State) (e : MaintEntry) (rest : List MaintEntry), let u := s.beginStart
    let x := u.lane e.lane
    u.engine.job = none → u.engine.queue = e :: rest →
      ∃ j : Job, exec .maintenanceStart s = .next
        { u with engine := { u.engine with job := some j, queue := rest } }
        ∧ j.lane = e.lane
        ∧ (e.kind = .clear → j = .clear e.lane)
        ∧ (∀ r d, e.kind = .shift r d → j = .shift e.lane r d
            ((List.range ((u.lane e.lane).tail.getD 0)).map fun k => u.store.readPart e.lane r k))
        ∧ (e.kind = .save → j = .save e.lane (u.lane e.lane) (u.chains e.lane) u.epoch)
        ∧ (e.kind = .restore → ∃ saved, j = .restore e.lane x saved
            ∧ (x.guard.stack = [] → saved = Vector.replicate 3 [])
            ∧ ∀ c more, x.guard.stack = c :: more →
                (∀ r, r ∉ boundRefs x → saved[r] = [])
                ∧ ∀ (i : Nat) (r : RefId), (boundRefs x)[i]? = some r → saved[r] =
                    ((c.slots.drop (c.span * i)).take c.span).map fun n => u.checkpoints.slots[n])
        ∧ s.beginScrub = { u with engine := { u.engine with job := some j, queue := rest } }
        ∧ s.beginEvent.engine = { u.engine with job := some j, queue := rest }

/-- PASS_COMPLETE of a lane that is not CLEARING (R68): each updated partition whose chain has no SHIFT
waiting lands and its clamped coefficients are counted; the talk state, hangover, last detection,
cursor, freeze reasons and recent energies of the pass become the lane's; the in-flight slot is empty, a
pass is counted and the engine is idle; the meter's tests and then the guard's verdict are applied, the
parameters those of the pass's start (R68, R116, R124); a lane RUN or TRIPPED afterwards keeps its input
queue and the pass's frame enters its output queue, a full one first losing its oldest frame, counted and
raised as OUTPUT_OVERRUN (R26); of a lane BYPASS or LOCKOUT afterwards the pass's frame enters first and
then every queued frame as PASSTHROUGH, oldest first, each handed to the trackers that the lane pilots, the
references ascending (R29, R25, log 11), the last four of them kept; other lanes, and their partitions, are
as they were. Of a CLEARING lane only the in-flight slot empties. -/
def Obligations.PassCompletionLandsResults : Prop :=
  (∀ (s : State) (inputs : PassInputs) (grant : Nat), let u := s.beginEvent
      let l := inputs.lane
      let res := inputs.results grant
      let landing := res.updates.filter fun v => !u.shiftWaiting l v.ref
      let em := energyOf inputs.frame.samples
      let eo := energyOf inputs.errors
      let verdict := if inputs.record.state = .run then judge inputs.record.guard res.talk em eo
        else .unchanged
      let v := (u.meterStep l inputs.record (inputs.record.state == .run) res.talk em eo).guardStep l
        inputs.record.guard verdict
      u.engine.job = some (.pass inputs grant) → (u.lane l).state ≠ .clearing →
        ∃ t, exec .passComplete s = .next t
          ∧ (∀ v ∈ landing, (u.store.partAt l v.ref v.position).isSome →
              t.store.readPart l v.ref v.position = v.coefs)
          ∧ (∀ r j, (∀ v ∈ landing, ¬(v.ref = r ∧ v.position = j)) →
              t.store.readPart l r j = u.store.readPart l r j)
          ∧ (t.lane l).talk = { (u.lane l).talk with
              state := res.talk, hangover := res.hangover, last := some res.detection }
          ∧ (t.lane l).cursor = res.cursor
          ∧ (t.lane l).freeze = some (Vector.ofFn fun r =>
              if res.freeze[r] = some .adapting ∧ u.shiftWaiting l r = true then some .shiftPending
              else res.freeze[r])
          ∧ (t.lane l).meter.recent = some { mic := energyOf inputs.frame.samples
                                             out := energyOf inputs.errors
                                             steps := lossSteps (energyOf inputs.frame.samples)
                                               (energyOf inputs.errors) }
          ∧ (t.lane l).inFlight = none ∧ (t.lane l).refs = (u.lane l).refs
          ∧ (t.lane l).tail = (u.lane l).tail ∧ (t.lane l).delays = (u.lane l).delays
          ∧ (t.lane l).counters.errorSats = BitVec.ofNat 16
              (min 65535 ((u.lane l).counters.errorSats.toNat + res.errorSats))
          ∧ (t.lane l).counters.coeffSats = BitVec.ofNat 16
              (min 65535 ((u.lane l).counters.coeffSats.toNat + (landing.map fun v => v.sats).sum))
          ∧ ((t.lane l).state = .run ∨ (t.lane l).state = .tripped →
              (t.lane l).input = (u.lane l).input
                ∧ (t.lane l).output = (if 4 ≤ (u.lane l).output.length then (u.lane l).output.drop 1
                    else (u.lane l).output) ++ [res.output]
                ∧ (t.lane l).counters.overruns = if 4 ≤ (u.lane l).output.length then
                    BitVec.ofNat 16 (min 65535 ((u.lane l).counters.overruns.toNat + 1))
                  else (u.lane l).counters.overruns)
          ∧ ((t.lane l).state = .bypass ∨ (t.lane l).state = .lockout → (t.lane l).input = []
              ∧ ((u.lane l).output.length ≤ 4 →
                let all := (u.lane l).output ++ res.output :: (u.lane l).input.map fun f =>
                  { epoch := f.epoch, kind := .passthrough, talk := none, gated := false
                    samples := f.samples }
                (t.lane l).output = all.drop (all.length - 4)
                  ∧ (t.lane l).counters.overruns = BitVec.ofNat 16 (min 65535
                      ((u.lane l).counters.overruns.toNat + (all.length - 4)))))
          ∧ (t.lane l).state = (v.lane l).state ∧ (t.lane l).lock = (v.lane l).lock
          ∧ (t.lane l).guard = (v.lane l).guard ∧ (t.lane l).meter = (v.lane l).meter
          ∧ ((t.lane l).state = .run ∨ (t.lane l).state = .tripped →
              t.engine.queue = v.engine.queue ∧ t.realigns = u.realigns ∧ t.trackers = u.trackers
                ∧ t.ports = (if 4 ≤ (u.lane l).output.length then v.raise .outputOverrun l.val
                    else v).ports)
          ∧ (∃ more, t.engine.queue = v.engine.queue ++ more)
          ∧ t.engine.job = none ∧ t.engine.budget = u.engine.budget
          ∧ t.engine.passes = BitVec.ofNat 16 (min 65535 (u.engine.passes.toNat + 1))
          ∧ (∀ k, k ≠ l → t.lane k = u.lane k)
          ∧ t.store.map = u.store.map ∧ t.store.scrub = u.store.scrub
          ∧ (∀ p : PartId, (u.store.map[p]).ownedFrom l 0 = false →
              t.store.coefs[p] = u.store.coefs[p])
          ∧ t.refs = u.refs ∧ t.checkpoints = u.checkpoints ∧ t.epoch = u.epoch)
    ∧ (∀ (s t : State) (inputs : PassInputs) (grant : Nat), let u := s.beginEvent
        let l := inputs.lane
        let res := inputs.results grant
        let v := (u.meterStep l inputs.record (inputs.record.state == .run) res.talk
          (energyOf inputs.frame.samples) (energyOf inputs.errors)).guardStep l inputs.record.guard
            res.verdict
        let insert := fun (w : State) (o : OutFrame) => let y := w.lane l
          if 4 ≤ y.output.length then (w.setLane l { y with
            output := y.output.drop 1 ++ [o]
            counters := { y.counters with overruns := BitVec.ofNat 16 (min 65535
              (y.counters.overruns.toNat + 1)) } }).raise .outputOverrun l.val
          else w.setLane l { y with output := y.output ++ [o] }
        let pass := fun (w : State) (f : InFrame) =>
          [0, 1, 2].foldl (fun a r => if (a.tracker r).pilot = l then
              a.trackMicrophone r f.epoch f.samples else a)
            (insert w { epoch := f.epoch, kind := .passthrough, talk := none, gated := false
                        samples := f.samples })
        u.engine.job = some (.pass inputs grant) → (u.lane l).state ≠ .clearing →
        exec .passComplete s = .next t →
          let a := insert ({ v.setLane l { v.lane l with
            talk := { (u.lane l).talk with
              state := res.talk, hangover := res.hangover, last := some res.detection }
            cursor := res.cursor, freeze := (t.lane l).freeze, inFlight := none
            counters := { (u.lane l).counters with
              errorSats := (t.lane l).counters.errorSats
              coeffSats := (t.lane l).counters.coeffSats } } with store := t.store }) res.output
          let z := if (v.lane l).state = .bypass ∨ (v.lane l).state = .lockout then
              (u.lane l).input.foldl pass (a.setLane l { a.lane l with input := [] })
            else a
          t = { z with engine := { z.engine with
            job := none, passes := BitVec.ofNat 16 (min 65535 (u.engine.passes.toNat + 1)) } })
    ∧ (∀ (s : State) (inputs : PassInputs) (grant : Nat), let u := s.beginEvent
        let l := inputs.lane
        u.engine.job = some (.pass inputs grant) → (u.lane l).state = .clearing →
          exec .passComplete s = .next { u.setLane l { u.lane l with inFlight := none } with
            engine := { u.engine with
              job := none
              passes := BitVec.ofNat 16 (min 65535 (u.engine.passes.toNat + 1)) } })

/-- What a pass computes. A history sample, a peak and an energy read as stored where the slot of their
epoch records that epoch with DATA, and as zero otherwise (R4). The echo estimate and the error samples, saturated and counted (R70, R71). A
partition selected for a chain that adapts moves each tap by the step times the gradient, shifted right
by b − 14 with rounding, and saturates the sum to 24 bits, each tap that changes counted (R75); b is the
bit length of the power, the energies read for the epochs s0 − 3 to s0 of every adapting reference, plus
the regularization (R74). A grant selects exactly that many
positions, all of chains that adapt, no position twice: those met walking forward from the cursor, which
then stands after the last one selected (R78, R79). Rp is the greatest peak of the window of any bound
reference that is not INACTIVE (R85). The first of the conditions 1 to 6 that fails freezes a chain
(R73). A pass whose verdict is a trip updates nothing, leaves the cursor, and passes its frame through
(R72); any other puts out its error samples, gated on a FAR frame of a locked RUN lane (R76, R118). -/
def Obligations.UpdatesOfAPass : Prop :=
  (∀ (i : PassInputs) (err : Frame) (r : RefId) (j : Nat),
      let delay := fun q : RefId => (i.record.delays[q]).getD 0
      let power := (((boundRefs i.record).filter fun q => i.eligibility q = .adapting).map fun q =>
        ((List.range 4).map fun n =>
          readEnergy i.refs[q] (epochPlus i.frame.epoch (-((delay q / 128 + n : Nat) : Int)))).sum).sum
      let b := bitLength (power + 2 ^ i.record.regularize)
      let g := fun k : Nat => ((List.finRange 128).map fun n : Fin 128 => (err[n]).toInt
        * readSample i.refs[r] (sampleIndex i.frame.epoch ((n.val : Int) - delay r - k))).sum
      let moved := fun o : Fin 256 => (tapOf i.chains[r] (256 * j + o.val)).toInt
        + ((i.record.step : Int) * g (256 * j + o.val) + 2 ^ (b - 15)) / 2 ^ (b - 14)
      16 ≤ i.record.regularize →
        (i.update err r j).ref = r ∧ (i.update err r j).position = j
        ∧ (∀ o : Fin 256, ((i.update err r j).coefs[o]).toInt =
            max (-8388608) (min 8388607 (moved o)))
        ∧ (i.update err r j).sats = ((List.finRange 256).filter fun o =>
            max (-8388608) (min 8388607 (moved o)) ≠ moved o).length)
    ∧ (∀ (e : Epoch) (i : Int), ((sampleIndex e i).toNat : Int) = (128 * e.toNat + i) % 8388608)
    ∧ (∀ (x : Reference) (n : SampleIndex), let p : Epoch := BitVec.ofNat 16 (n.toNat / 128)
        let slot := x.ring[(⟨p.toNat % 128, Nat.mod_lt _ (by decide)⟩ : Fin 128)]
        readSample x n = (if slot.epoch = p ∧ slot.fill = .data then
          (slot.samples[(⟨n.toNat % 128, Nat.mod_lt _ (by decide)⟩ : Fin 128)]).toInt else 0))
    ∧ (∀ (x : Reference) (p : Epoch),
        let slot := x.ring[(⟨p.toNat % 128, Nat.mod_lt _ (by decide)⟩ : Fin 128)]
        readPeak x p = (if slot.epoch = p ∧ slot.fill = .data then slot.peak else 0)
          ∧ readEnergy x p = (if slot.epoch = p ∧ slot.fill = .data then slot.energy else 0))
    ∧ (∀ (i : PassInputs) (budget : Nat), let g := i.grantFrom budget
        i.record.cursor < i.positions →
          (i.selected g).length = g ∧ (i.selected g).Nodup
            ∧ (∀ p ∈ i.selected g, p < i.positions ∧ i.adapts p = true)
            ∧ i.cursorAfter g < i.positions ∧ g ≤ budget
            ∧ ∃ reach, reach ≤ i.positions
              ∧ i.selected g = ((List.range reach).map fun n =>
                  (i.record.cursor + n) % i.positions).filter (fun p => i.adapts p)
              ∧ i.cursorAfter g = (i.record.cursor + reach) % i.positions
              ∧ (g = 0 → reach = 0)
              ∧ (0 < g → 0 < reach ∧ i.adapts ((i.record.cursor + reach - 1) % i.positions) = true))
    ∧ (∀ (i : PassInputs) (n : Fin 128),
        let acc := ((boundRefs i.record).map fun r => ((List.range (256 * i.record.tail.getD 0)).map
          fun k => (tapOf i.chains[r] k).toInt * readSample i.refs[r]
            (sampleIndex i.frame.epoch ((n.val : Int) - ((i.record.delays[r]).getD 0 : Nat) - k))).sum).sum
        i.echo n.val = max (-32768) (min 32767 ((acc + 2 ^ 21) / 2 ^ 22))
          ∧ (i.errors[n]).toInt = max (-32768) (min 32767 ((i.frame.samples[n]).toInt - i.echo n.val)))
    ∧ (∀ (i : PassInputs) (p : Nat), i.positions = i.record.tail.getD 0 * (boundRefs i.record).length
        ∧ (i.adapts p = true ↔ ∃ r, (boundRefs i.record)[p / i.record.tail.getD 0]? = some r
            ∧ i.eligibility r = .adapting))
    ∧ (∀ (i : PassInputs) (v : Nat), i.refPeak ≤ v ↔ ∀ r ∈ boundRefs i.record,
        (i.refs[r]).state ≠ .inactive → let d := (i.record.delays[r]).getD 0
          ∀ q : Nat, d / 128 ≤ q → q ≤ 2 * i.record.tail.getD 0 + (d + 126) / 128 →
            readPeak i.refs[r] (epochPlus i.frame.epoch (-(q : Int))) ≤ v)
    ∧ (∀ (i : PassInputs) (g : Nat) (r : RefId), let res := i.results g
        let x := i.record
        let run := x.state = .run
        let talk := classify x.talk (detect x.talk (peakOf i.frame.samples) i.refPeak)
        let gated := run ∧ x.lock = true ∧ talk.1 = .far
        res.detection = detect x.talk (peakOf i.frame.samples) i.refPeak
        ∧ res.talk = talk.1 ∧ res.hangover = talk.2
        ∧ res.verdict = (if run then
            judge x.guard talk.1 (energyOf i.frame.samples) (energyOf i.errors) else .unchanged)
        ∧ res.errorSats = ((List.finRange 128).filter fun n : Fin 128 =>
            (i.errors[n]).toInt ≠ (i.frame.samples[n]).toInt - i.echo n.val).length
        ∧ i.eligibility r = (if ¬run then .mode
            else if x.step = 0 then .stepZero
            else if (i.refs[r]).state = .inactive then .refInactive
            else if (i.refs[r]).state = .stalled then .refStalled
            else if (i.refs[r]).continuous
                < 2 * x.tail.getD 0 + (((x.delays[r]).getD 0) + 126) / 128 + 1 then .refill
            else if talk.1 ≠ .far then .talk else .adapting)
        ∧ (res.verdict = .trip → res.updates = [] ∧ res.cursor = x.cursor
            ∧ res.freeze[r] = (if r ∈ boundRefs x then some .mode else none)
            ∧ res.output = { epoch := i.frame.epoch, kind := .passthrough, talk := some talk.1
                             gated := false, samples := i.frame.samples })
        ∧ (res.verdict ≠ .trip → res.cursor = i.cursorAfter g
            ∧ res.updates = (i.selected g).filterMap (fun p =>
                ((boundRefs x)[p / x.tail.getD 0]?).map fun q =>
                  i.update i.errors q (p % x.tail.getD 0))
            ∧ res.freeze[r] = (if r ∈ boundRefs x then some (i.eligibility r) else none)
            ∧ res.output.epoch = i.frame.epoch ∧ res.output.kind = .cancelled
            ∧ res.output.talk = some talk.1 ∧ (res.output.gated = true ↔ gated)
            ∧ ∀ n : Fin 128, res.output.samples[n] = if gated then
                BitVec.ofInt 16 (if x.meter.gateDepth = 0 then (i.errors[n]).toInt
                  else ((i.errors[n]).toInt + 2 ^ (x.meter.gateDepth - 1)) / 2 ^ x.meter.gateDepth)
              else i.errors[n]))

/-- CLEAR_COMPLETE: every coefficient of every chain of the lane is zero, other partitions keep theirs,
a CLEARING lane becomes BYPASS and a lane in another state keeps it, and the engine becomes idle. -/
def Obligations.ClearCompletionZeroesChains : Prop :=
  ∀ (s : State) (l : LaneId), let u := s.beginEvent
    let x := u.lane l
    u.engine.job = some (.clear l) → ∃ t, exec .clearComplete s = .next t
      ∧ t.lane l = (if x.state = .clearing then { x with state := .bypass } else x)
      ∧ (∀ k, k ≠ l → t.lane k = u.lane k)
      ∧ (∀ r ∈ boundRefs x, ∀ j, j < x.tail.getD 0 → t.store.readPart l r j = zeroPartition)
      ∧ t.store.map = u.store.map ∧ t.store.scrub = u.store.scrub
      ∧ (∀ p : PartId, (u.store.map[p]).ownedFrom l 0 = false →
          t.store.coefs[p] = u.store.coefs[p])
      ∧ t.engine = { u.engine with job := none }
      ∧ t.ports = u.ports ∧ t.refs = u.refs ∧ t.realigns = u.realigns
      ∧ t.checkpoints = u.checkpoints ∧ t.epoch = u.epoch

/-- SHIFT_COMPLETE: each tap of the chain takes the old tap Δ further on, or zero where the chain has
none; the lane's applied delay becomes D; other chains keep their taps; and with no SHIFT of the
reference left the realign ends (R107): it is IDLE, DELAY_SET is raised, and a pending proposal is
removed and committed, with its origin. The chain has all its positions. -/
def Obligations.ShiftCompletionMovesChain : Prop :=
  ∀ (s : State) (l : LaneId) (r : RefId) (d : Int) (old : List Partition), let u := s.beginEvent
    let x := u.lane l
    u.engine.job = some (.shift l r d old) →
    (∀ j, j < old.length → (u.store.partAt l r j).isSome) → ∃ t, exec .shiftComplete s = .next t
      ∧ (∀ k : Nat, k < 256 * old.length → t.store.readTap l r k =
          if 0 ≤ (k : Int) + d ∧ (k : Int) + d < 256 * old.length then tapOf old ((k : Int) + d).toNat
          else 0)
      ∧ (∀ (l' : LaneId) (r' : RefId) k, ¬(l' = l ∧ r' = r) →
          t.store.readTap l' r' k = u.store.readTap l' r' k)
      ∧ t.store.map = u.store.map
      ∧ t.lane l = { x with delays := x.delays.set r (some (u.realign r).target) }
      ∧ (∀ k, k ≠ l → t.lane k = u.lane k)
      ∧ t.engine.job = none ∧ t.refs = u.refs ∧ t.epoch = u.epoch
      ∧ t.checkpoints = u.checkpoints
      ∧ ((∃ e ∈ u.engine.queue, e.isShiftOf r = true) →
          t.realigns = u.realigns ∧ t.ports = u.ports ∧ t.engine.queue = u.engine.queue)
      ∧ ((∀ e ∈ u.engine.queue, e.isShiftOf r = false) → (u.realign r).state = .shifting →
          (u.realign r).proposal = none →
            t.realign r = { u.realign r with state := .idle }
              ∧ t.ports = (u.raise .delaySet r.val).ports)
      ∧ (let v : State := { u.setLane l (t.lane l) with
            store := t.store, engine := { u.engine with job := none } }
         t = v.endRealignIfDone r
         ∧ ((u.realign r).state = .idle ∨ (∃ e ∈ u.engine.queue, e.isShiftOf r = true) → t = v)
         ∧ ((u.realign r).state = .shifting → (∀ e ∈ u.engine.queue, e.isShiftOf r = false) →
             let ended := (v.setRealign r { u.realign r with
               state := .idle, proposal := none }).raise .delaySet r.val
             t = match (u.realign r).proposal with
               | none => ended
               | some (d', o) => (ended.commit r d' o).1))

/-- SAVE_COMPLETE (R134). With a stack of fewer than 4 entries and enough free slots, the
lowest-numbered free slots are taken, each with the coefficients of its chain position at the job's
start, and an entry with the job's start values is pushed; no chain changes. When the free slots and the
lane's own entries together are too few, every entry of the lane is dropped, CHECKPOINT_SKIPPED is
raised, nothing is pushed, and the last-save epoch and the next sequence number keep their values. In
between, the bottom entry of a full stack is dropped, then as few more from the bottom as free the slots
needed, and the entry is pushed. -/
def Obligations.SaveCompletionTable : Prop :=
  (∀ (s : State) (l : LaneId) (start : Lane) (chains : Chains) (e : Epoch), let u := s.beginEvent
      let x := u.lane l
      let span := min start.guard.span (start.tail.getD 0)
      let need := span * (boundRefs start).length
      let free := (List.finRange 96).filter fun i : SlotId => u.checkpoints.free[i]
      let parts := (boundRefs start).flatMap fun r => (chains[r]).take span
      u.engine.job = some (.save l start chains e) → x.guard.stack.length < 4 → need ≤ free.length →
      parts.length = need →
        ∃ t, exec .saveComplete s = .next t
          ∧ t.lane l = { x with guard := { x.guard with
              stack :=
                { sequence := x.guard.nextSequence, epoch := e
                  steps := start.meter.latched.map fun v => v.steps
                  delays := start.delays, span := span, slots := free.take need } :: x.guard.stack
              nextSequence := x.guard.nextSequence + 1, lastSave := some e } }
          ∧ (∀ k, k ≠ l → t.lane k = u.lane k)
          ∧ (∀ i : SlotId, t.checkpoints.free[i] = true ↔
              u.checkpoints.free[i] = true ∧ i ∉ free.take need)
          ∧ (∀ (n : Nat) (i : SlotId), (free.take need)[n]? = some i →
              parts[n]? = some t.checkpoints.slots[i])
          ∧ (∀ i : SlotId, i ∉ free.take need → t.checkpoints.slots[i] = u.checkpoints.slots[i])
          ∧ t.store = u.store ∧ t.ports = u.ports ∧ t.refs = u.refs ∧ t.realigns = u.realigns
          ∧ t.engine = { u.engine with job := none } ∧ t.epoch = u.epoch)
    ∧ (∀ (s : State) (l : LaneId) (start : Lane) (chains : Chains) (e : Epoch), let u := s.beginEvent
        let x := u.lane l
        let held := x.guard.stack.flatMap fun c => c.slots
        let free := (List.finRange 96).filter fun i : SlotId => u.checkpoints.free[i]
        u.engine.job = some (.save l start chains e) → held.Nodup →
        (∀ i ∈ held, u.checkpoints.free[i] = false) →
        free.length + held.length < min start.guard.span (start.tail.getD 0) * (boundRefs start).length →
          ∃ t, exec .saveComplete s = .next t
            ∧ t.lane l = { x with guard := { x.guard with stack := [] } }
            ∧ (∀ k, k ≠ l → t.lane k = u.lane k)
            ∧ (∀ i : SlotId, t.checkpoints.free[i] = true ↔
                u.checkpoints.free[i] = true ∨ i ∈ held)
            ∧ t.checkpoints.slots = u.checkpoints.slots
            ∧ t.ports = (u.raise .checkpointSkipped l.val).ports ∧ t.store = u.store
            ∧ t.engine = { u.engine with job := none })
    ∧ (∀ (s : State) (l : LaneId) (start : Lane) (chains : Chains) (e : Epoch), let u := s.beginEvent
        let x := u.lane l
        let span := min start.guard.span (start.tail.getD 0)
        let need := span * (boundRefs start).length
        let parts := (boundRefs start).flatMap fun r => (chains[r]).take span
        let freeWith := fun es : List Checkpoint => (List.finRange 96).filter fun i : SlotId =>
          u.checkpoints.free[i] || es.any fun c => c.slots.contains i
        u.engine.job = some (.save l start chains e) → x.guard.stack.length ≤ 4 →
        need ≤ (freeWith x.guard.stack).length → parts.length = need →
          ∃ (t : State) (kept dropped : List Checkpoint), exec .saveComplete s = .next t
            ∧ x.guard.stack = kept ++ dropped ∧ kept.length < 4 ∧ need ≤ (freeWith dropped).length
            ∧ (∀ c more, dropped = c :: more → more ≠ [] ∨ x.guard.stack.length < 4 →
                (freeWith more).length < need)
            ∧ t.lane l = { x with guard := { x.guard with
                stack :=
                  { sequence := x.guard.nextSequence, epoch := e
                    steps := start.meter.latched.map fun v => v.steps
                    delays := start.delays, span := span
                    slots := (freeWith dropped).take need } :: kept
                nextSequence := x.guard.nextSequence + 1, lastSave := some e } }
            ∧ (∀ k, k ≠ l → t.lane k = u.lane k)
            ∧ (∀ i : SlotId, t.checkpoints.free[i] = true ↔
                i ∈ freeWith dropped ∧ i ∉ (freeWith dropped).take need)
            ∧ (∀ (n : Nat) (i : SlotId), ((freeWith dropped).take need)[n]? = some i →
                parts[n]? = some t.checkpoints.slots[i])
            ∧ (∀ i : SlotId, i ∉ (freeWith dropped).take need →
                t.checkpoints.slots[i] = u.checkpoints.slots[i])
            ∧ t.store = u.store ∧ t.ports = u.ports ∧ t.refs = u.refs ∧ t.realigns = u.realigns
            ∧ t.engine = { u.engine with job := none } ∧ t.epoch = u.epoch)

/-- RESTORE_COMPLETE: with an empty stack at the job's start every coefficient of every chain is zero;
otherwise each chain is the saved head, zero beyond it, shifted to the applied delay of the job's start,
and the top entry is popped, its slots free. The applied delays are not changed. The lane's chains have
all their positions. -/
def Obligations.RestoreCompletionWritesChains : Prop :=
  ∀ (s : State) (l : LaneId) (start : Lane) (saved : Chains), let u := s.beginEvent
    let x := u.lane l
    let n := 256 * start.tail.getD 0
    u.engine.job = some (.restore l start saved) →
    (∀ r ∈ boundRefs start, ∀ j, j < start.tail.getD 0 → (u.store.partAt l r j).isSome) →
      ∃ t, exec .restoreComplete s = .next t
        ∧ (start.guard.stack = [] →
            (∀ r ∈ boundRefs start, ∀ k, k < n → t.store.readTap l r k = 0)
              ∧ t.lanes = u.lanes ∧ t.checkpoints = u.checkpoints)
        ∧ (∀ e rest, start.guard.stack = e :: rest →
            (∀ r ∈ boundRefs start, ∀ k : Nat, k < n →
              let from' := (k : Int) + ((start.delays[r]).getD 0 : Nat) - ((e.delays[r]).getD 0 : Nat)
              t.store.readTap l r k =
                if 0 ≤ from' ∧ from' < n then tapOf (saved[r]) from'.toNat else 0)
              ∧ (∀ c more, x.guard.stack = c :: more →
                  t.lane l = { x with guard := { x.guard with stack := more } }
                    ∧ (∀ i : SlotId, t.checkpoints.free[i] = true ↔
                        u.checkpoints.free[i] = true ∨ i ∈ c.slots)))
        ∧ (∀ k, k ≠ l → t.lane k = u.lane k) ∧ (t.lane l).delays = x.delays
        ∧ t.store.map = u.store.map
        ∧ (∀ p : PartId, (u.store.map[p]).ownedFrom l 0 = false →
            t.store.coefs[p] = u.store.coefs[p])
        ∧ t.ports = u.ports ∧ t.refs = u.refs ∧ t.realigns = u.realigns
        ∧ t.engine = { u.engine with job := none } ∧ t.epoch = u.epoch

/-! ## Talk state, meter and guard -/

/-- The talk states of R87: DOUBLE on a detection, with the count at H; DOUBLE held while the count is
above 0, one less; otherwise FAR, NEAR or QUIET with count 0, by the far end and the near floor. -/
def Obligations.TalkStateTable : Prop :=
  ∀ (t : Talk) (mp rp : Nat), let d := detect t mp rp
    (d.farActive = true ↔ t.farFloor ≤ rp)
    ∧ (d.detected = true ↔ t.farFloor ≤ rp ∧ t.threshold * rp ≤ 16 * mp)
    ∧ (d.detected = true → classify t d = (.double, t.hang))
    ∧ (d.detected = false → t.state = .double → 0 < t.hangover →
        classify t d = (.double, t.hangover - 1))
    ∧ (d.detected = false → (t.state ≠ .double ∨ t.hangover = 0) →
        classify t d = (if t.farFloor ≤ rp then .far
          else if t.nearFloor ≤ mp then .near else .quiet, 0))

/-- TALK STATUS, METER READ and GUARD STATUS: WRONG_STATE for an UNBOUND lane (GUARD STATUS answers it
instead, with the free slots and the state), and otherwise the fields in the order of R92, R121 and
R138. The carrying of absent fields is log 15's. -/
def Obligations.LaneReadersReport : Prop :=
  ∀ (p : Port) (m : Message) (s : State) (l : LaneId), m.names l →
    let u := s.beginEvent
    let x := u.lane l
    let g := x.guard
    let word := fun o : Option Nat => match o with
      | some n => BitVec.ofNat 16 n
      | none => (65535 : Word)
    let energies := fun o : Option Reading => match o with
      | some v => 1 :: energyWords v.mic ++ 1 :: energyWords v.out ++ [BitVec.ofNat 16 v.steps]
      | none => [0, 65535, 65535, 65535, 0, 65535, 65535, 65535, 65535]
    (s.takes .talkStatus p m → exec (.talkStatus p m) s = .next
      (if x.state = .unbound then u.respond p 0x51 .wrongState []
      else u.respond p 0x51 .ok
        ([talkCode x.talk.state, BitVec.ofNat 16 x.talk.hangover, BitVec.ofNat 16 x.talk.threshold,
          BitVec.ofNat 16 x.talk.hang, BitVec.ofNat 16 x.talk.farFloor,
          BitVec.ofNat 16 x.talk.nearFloor]
          ++ match x.talk.last with
            | some d => [BitVec.ofNat 16 d.micPeak, BitVec.ofNat 16 d.refPeak,
                if d.farActive then 1 else 0, if d.detected then 1 else 0]
            | none => [65535, 65535, 65535, 65535])))
    ∧ (s.takes .meterRead p m → exec (.meterRead p m) s = .next
      (if x.state = .unbound then u.respond p 0x71 .wrongState []
      else u.respond p 0x71 .ok
        (energies x.meter.recent ++ energies x.meter.latched
          ++ [BitVec.ofNat 16 x.meter.windowCode, BitVec.ofNat 16 x.meter.windowCount,
              BitVec.ofNat 16 (4 ^ x.meter.windowCode), x.meter.latches, if x.lock then 1 else 0,
              BitVec.ofNat 16 x.meter.window, BitVec.ofNat 16 x.meter.lockLevel,
              BitVec.ofNat 16 x.meter.lowLevel, BitVec.ofNat 16 x.meter.gateDepth])))
    ∧ (s.takes .guardStatus p m → exec (.guardStatus p m) s = .next (u.respond p 0x84 .ok
        (BitVec.ofNat 16 ((List.finRange 96).filter fun i : SlotId => u.checkpoints.free[i]).length
          :: laneStateCode x.state
          :: if x.state = .unbound then
              [65535, 65535, 0, 65535, 65535, 0, 65535, 0, 65535, 65535, 65535, 65535, 65535, 65535,
                65535, 65535, 65535, 65535]
            else
              [BitVec.ofNat 16 g.divergence, BitVec.ofNat 16 g.tripCount, 1, g.totalTrips,
                  word g.retry]
                ++ (match g.lastSave with
                    | some e => [1, e]
                    | none => [0, 65535])
                ++ [1, g.nextSequence, BitVec.ofNat 16 g.margin, BitVec.ofNat 16 g.hold,
                    BitVec.ofNat 16 g.retryDelay, BitVec.ofNat 16 g.attempts,
                    BitVec.ofNat 16 g.saveLevel, BitVec.ofNat 16 g.saveInterval,
                    BitVec.ofNat 16 g.span, if g.autoSave then 1 else 0,
                    BitVec.ofNat 16 g.stack.length]
                ++ g.stack.flatMap fun e => [e.sequence, e.epoch, word e.steps]
                    ++ ((boundRefs x).map fun r => word e.delays[r])
                    ++ BitVec.ofNat 16 e.span :: e.slots.map fun i => BitVec.ofNat 16 i.val)))

/-- The meter at a pass's completion (R113 to R116, R132). The recent energies are set on every frame,
and a frame that is not FAR changes nothing else. A FAR frame under the window's own code is summed;
under another code the window restarts with it; a window that is full latches the floor averages and
empties. A latch of a lane that was RUN at the pass's start is then tested: a clear flag is set and the
trip count cleared at the lock level, a set flag stays and ERLE_LOW is raised below the low level. And
then a SAVE is requested under the six conditions of R132, merging with one that waits (R61). -/
def Obligations.MeterWindowTable : Prop :=
  (∀ (s : State) (l : LaneId) (start : Lane) (wasRun : Bool) (em eo : Nat), let x := s.lane l
      let w := start.meter.window
      let kept := w = x.meter.windowCode
      let m := if kept then x.meter.sumM + em else em
      let o := if kept then x.meter.sumO + eo else eo
      let n := if kept then x.meter.windowCount + 1 else 1
      let recent := { x.meter with recent := some { mic := em, out := eo, steps := lossSteps em eo } }
      let k := lossSteps (m / 4 ^ w) (o / 4 ^ w)
      let latched := s.setLane l { x with meter := { recent with
        windowCode := w, windowCount := 0, sumM := 0, sumO := 0
        latched := some { mic := m / 4 ^ w, out := o / 4 ^ w, steps := k }
        latches := BitVec.ofNat 16 (min 65535 (x.meter.latches.toNat + 1)) } }
      (∀ t, t ≠ .far → s.meterStep l start wasRun t em eo = s.setLane l { x with meter := recent })
      ∧ (n ≠ 4 ^ w → s.meterStep l start wasRun .far em eo = s.setLane l { x with meter := { recent with
          windowCode := w, windowCount := n, sumM := m, sumO := o } })
      ∧ (n = 4 ^ w → s.meterStep l start wasRun .far em eo =
          if wasRun then (latched.testLatch l start.meter k).autoSave l start.guard k else latched))
    ∧ (∀ (s : State) (l : LaneId) (start : Meter) (k : Nat), let x := s.lane l
        s.testLatch l start k =
          if x.lock = false ∧ start.lockLevel ≤ k then
            (s.setLane l { x with lock := true, guard := { x.guard with tripCount := 0 } }).raise
              .erleLock l.val
          else if x.lock = true ∧ k < start.lowLevel then s.raise .erleLow l.val
          else s)
    ∧ ∀ (s : State) (l : LaneId) (start : Guard) (k : Nat), let x := s.lane l
        let asked := x.state = .run ∧ x.lock = true ∧ start.saveLevel ≤ k ∧ start.autoSave = true
          ∧ (∀ e, x.guard.lastSave = some e → (start.saveInterval : Int) ≤ behind s.epoch e)
          ∧ ∀ e ∈ s.engine.queue, e.lane = l → ∀ r d, e.kind ≠ .shift r d
        let save : MaintEntry := { kind := .save, lane := l }
        (¬asked → s.autoSave l start k = s)
        ∧ (asked → s.autoSave l start k =
            if save ∈ s.engine.queue then s
            else { s with engine := { s.engine with queue := s.engine.queue ++ [save] } })

/-- The divergence verdict of R123 and its effect on the lane as it stands at the completion (R124). On a
lane that is not RUN the verdict is discarded, and a pass that forms none changes nothing. On a RUN lane:
QUIET or NEAR leaves the count; a FAR or DOUBLE frame that is not diverging makes it 0; a diverging one
raises it, or, the count + 1 at least the hold, trips the lane (R125 to R127): the count cleared, the trip
counted, the lock flag cleared, the lane's SAVE removed, and TRIPPED with a RESTORE waiting and the
countdown set, or LOCKOUT with a CLEAR waiting. A bit length is at most k exactly for a value below 2 to
the power k (R69). -/
def Obligations.TripTable : Prop :=
  (∀ n k : Nat, bitLength n ≤ k ↔ n < 2 ^ k)
    ∧ (∀ (s : State) (l : LaneId) (g : Guard) (v : Verdict),
        ((s.lane l).state ≠ .run ∨ v = .unchanged) → s.guardStep l g v = s)
    ∧ ∀ (s : State) (l : LaneId) (g : Guard) (t : TalkState) (em eo : Nat), let x := s.lane l
        let trips := x.guard.tripCount + 1
        let s' := s.guardStep l g (judge g t em eo)
        let diverging := bitLength em + g.margin < bitLength eo
        ((t = .quiet ∨ t = .near) → s' = s)
        ∧ ((t = .far ∨ t = .double) → ¬diverging → x.state = .run →
          s' = s.setLane l { x with guard := { x.guard with divergence := 0 } })
        ∧ ((t = .far ∨ t = .double) → diverging → x.state = .run →
          (g.divergence + 1 < g.hold →
            s' = s.setLane l { x with guard := { x.guard with divergence := g.divergence + 1 } })
          ∧ (g.hold ≤ g.divergence + 1 →
            (s'.lane l).guard.divergence = 0 ∧ (s'.lane l).guard.tripCount = trips
            ∧ (s'.lane l).guard.totalTrips =
                BitVec.ofNat 16 (min 65535 (x.guard.totalTrips.toNat + 1))
            ∧ (s'.lane l).lock = false ∧ (s'.lane l).guard.stack = x.guard.stack
            ∧ { kind := .save, lane := l } ∉ s'.engine.queue
            ∧ (∀ k, k ≠ l → s'.lane k = s.lane k) ∧ s'.store = s.store
            ∧ (trips ≤ x.guard.attempts → (s'.lane l).state = .tripped
                ∧ (s'.lane l).guard.retry = some (g.retryDelay * 8)
                ∧ { kind := .restore, lane := l } ∈ s'.engine.queue
                ∧ s'.ports = (s.raise .laneTrip l.val).ports)
            ∧ (x.guard.attempts < trips → (s'.lane l).state = .lockout
                ∧ (s'.lane l).guard.retry = x.guard.retry
                ∧ { kind := .clear, lane := l } ∈ s'.engine.queue
                ∧ s'.ports = (s.raise .laneLockout l.val).ports)))

/-- REARM, SAVE CHECKPOINT and DROP CHECKPOINTS, by the lane's state and what waits or runs for it
(R129, R133, R136). GUARD CONFIG (R137): an auto-save other than 0 or 1 refused first, an UNBOUND lane
next, and otherwise the seven tuning values clamped and stored, the trip count limited at once by the
new retry attempts. -/
def Obligations.GuardCommandsTable : Prop :=
  (∀ (m : Message) (s : State) (l : LaneId), m.names l →
      let u := s.beginEvent
      let x := u.lane l
      (s.takes .rearm .portS m → exec (.rearm .portS m) s = .next
        (if x.state = .lockout then
          if { kind := .clear, lane := l } ∈ u.engine.queue ∨ u.engine.job = some (.clear l) then
            u.respond .portS 0x80 .busy []
          else (u.setLane l { x with
            state := .run, lock := false, guard := { x.guard with tripCount := 0 } }).respond
              .portS 0x80 .ok []
        else u.respond .portS 0x80 .wrongState []))
      ∧ (s.takes .saveCheckpoint .portS m → exec (.saveCheckpoint .portS m) s = .next
        (match x.state with
        | .unbound | .lockout => u.respond .portS 0x81 .wrongState []
        | .clearing => u.respond .portS 0x81 .busy []
        | .bypass | .run | .tripped =>
          if { kind := .save, lane := l } ∈ u.engine.queue then u.respond .portS 0x81 .queued []
          else ({ u with engine := { u.engine with
            queue := u.engine.queue ++ [{ kind := .save, lane := l }] } } : State).respond
              .portS 0x81 .queued []))
      ∧ (s.takes .dropCheckpoints .portS m →
          let held := { kind := .save, lane := l } ∈ u.engine.queue
            ∨ { kind := .restore, lane := l } ∈ u.engine.queue
            ∨ (∃ y c e, u.engine.job = some (.save l y c e)) ∨ ∃ y c, u.engine.job = some (.restore l y c)
          (x.state = .unbound →
            exec (.dropCheckpoints .portS m) s = .next (u.respond .portS 0x82 .wrongState []))
          ∧ (x.state ≠ .unbound → held →
            exec (.dropCheckpoints .portS m) s = .next (u.respond .portS 0x82 .busy []))
          ∧ (x.state ≠ .unbound → ¬held → ∃ cs : CheckpointStore,
            exec (.dropCheckpoints .portS m) s = .next
              (({ u with checkpoints := cs }.setLane l { x with guard := { x.guard with
                stack := [], lastSave := none } }).respond .portS 0x82 .ok [])
            ∧ cs.slots = u.checkpoints.slots
            ∧ ∀ i : SlotId, cs.free[i] = true ↔
                u.checkpoints.free[i] = true ∨ ∃ e ∈ x.guard.stack, i ∈ e.slots)))
    ∧ (∀ (m : Message) (s : State) (l : LaneId), s.takes .guardConfig .portS m → m.names l →
        let u := s.beginEvent
        let x := u.lane l
        let v := fun (n : Nat) (lo hi : Int) => (max lo (min hi (argWord m n).toInt)).toNat
        let kept := fun (n : Nat) (lo hi : Int) => decide (lo ≤ (argWord m n).toInt ∧ (argWord m n).toInt ≤ hi)
        (2 ≤ argNat m 7 → exec (.guardConfig .portS m) s = .next (u.respond .portS 0x83 .badArg []))
        ∧ (argNat m 7 ≤ 1 → x.state = .unbound →
            exec (.guardConfig .portS m) s = .next (u.respond .portS 0x83 .wrongState []))
        ∧ (argNat m 7 ≤ 1 → x.state ≠ .unbound → exec (.guardConfig .portS m) s = .next
            ((u.setLane l { x with guard := { x.guard with
              margin := v 0 0 3, hold := v 1 1 15, retryDelay := v 2 1 255, attempts := v 3 0 15
              saveLevel := v 4 0 31, saveInterval := v 5 64 4096, span := v 6 1 4
              autoSave := decide (argNat m 7 = 1)
              tripCount := if x.state = .lockout then v 3 0 15 + 1
                else min x.guard.tripCount (v 3 0 15) } }).respond .portS 0x83
              (if kept 0 0 3 && kept 1 1 15 && kept 2 1 255 && kept 3 0 15 && kept 4 0 31
                  && kept 5 64 4096 && kept 6 1 4 then .ok else .clamped)
              [BitVec.ofNat 16 (v 0 0 3), BitVec.ofNat 16 (v 1 1 15), BitVec.ofNat 16 (v 2 1 255),
                BitVec.ofNat 16 (v 3 0 15), BitVec.ofNat 16 (v 4 0 31), BitVec.ofNat 16 (v 5 64 4096),
                BitVec.ofNat 16 (v 6 1 4), argWord m 7])))

/-! ## Delay tracking and realignment -/

/-- The tracker of a reference and the frames its history hands it (R96, R97): DISARMED, it counts quiet
frames and is ARMED at the need; ARMED, it opens a record at the first sample at or above the level, and
else a frame that is not quiet disarms it; OFF and OPEN it does nothing. -/
def Obligations.OnsetTable : Prop :=
  ∀ (t : Tracker) (e : Epoch) (f : Frame) (peak : Nat),
    let n := min 15 (t.quietCount + 1)
    let loud := fun i : Fin 128 => t.refLevel ≤ (f[i]).toInt.natAbs
    (t.state = .off ∨ t.state = .opened → trackReference t e f peak = t)
    ∧ (t.state = .disarmed → t.quietLevel ≤ peak →
        trackReference t e f peak = { t with quietCount := 0 })
    ∧ (t.state = .disarmed → peak < t.quietLevel → trackReference t e f peak =
        { t with quietCount := n, state := if t.quietNeed ≤ n then .armed else .disarmed })
    ∧ (t.state = .armed → ∀ i, loud i → (∀ j, j < i → ¬loud j) → trackReference t e f peak =
        { t with
          state := .opened
          onset := some { index := BitVec.ofNat 23 (128 * e.toNat + i.val), epoch := e } })
    ∧ (t.state = .armed → (∀ i, ¬loud i) → trackReference t e f peak =
        if t.quietLevel ≤ peak then { t with state := .disarmed, quietCount := 0, onset := none }
        else t)

/-- A frame of the pilot lane and an open onset record (R98, R101): a tracker that is not OPEN ignores
it; a frame before the record's epoch is ignored; the first sample at or above the level with a lag of 0
to 1151 gives that lag to the list of four, a match and a DISARMED tracker, and then proposes; a frame
that ends at a lag of 1152 or more without one is a miss; otherwise the record stays open. The newest three lags within the
tolerance propose their median less the guard, at most 1023, which is committed when it differs from D
by more than the tolerance and the hold countdown is 0. -/
def Obligations.PilotScanTable : Prop :=
  (∀ (s : State) (r : RefId) (f : Epoch) (x : Frame),
      (s.tracker r).state ≠ .opened → s.trackMicrophone r f x = s)
    ∧ (∀ (s : State) (r : RefId) (f : Epoch) (x : Frame) (o : Onset), let t := s.tracker r
    let lag := fun j : Fin 128 =>
      (BitVec.ofNat 23 (128 * f.toNat + j.val) - o.index : BitVec 23).toInt
    let hits := fun j : Fin 128 => 0 ≤ lag j ∧ lag j ≤ 1151 ∧ t.micLevel ≤ (x[j]).toInt.natAbs
    let closed := { t with state := .disarmed, quietCount := 0, onset := none }
    t.state = .opened → t.onset = some o →
      (isAfter o.epoch f = true → s.trackMicrophone r f x = s)
      ∧ (isAfter o.epoch f = false → ∀ j, hits j → (∀ k, k < j → ¬hits k) →
          (s.trackMicrophone r f x).tracker r = { closed with
            lags := (if 4 ≤ t.lags.length then t.lags.drop 1 else t.lags) ++ [(lag j).toNat]
            matchCount := BitVec.ofNat 16 (min 65535 (t.matchCount.toNat + 1)) }
        ∧ s.trackMicrophone r f x =
            (s.setTracker r ((s.trackMicrophone r f x).tracker r)).propose r)
      ∧ (isAfter o.epoch f = false → (∀ j, ¬hits j) → s.trackMicrophone r f x =
          if 1152 ≤ lag 127 then s.setTracker r { closed with
            missCount := BitVec.ofNat 16 (min 65535 (t.missCount.toNat + 1)) }
          else s))
    ∧ ∀ (s : State) (r : RefId), let t := s.tracker r
      let D := (s.realign r).target
      (t.lags.length < 3 → s.propose r = s)
      ∧ ∀ (older : List Nat) (a b c low mid high : Nat), t.lags = older ++ [a, b, c] →
          [a, b, c].Perm [low, mid, high] → low ≤ mid → mid ≤ high →
          let delay := min 1023 (mid - t.guard)
          s.propose r =
            if high - low ≤ t.tolerance ∧ t.tolerance < max delay D - min delay D
                ∧ (s.realign r).hold = 0 then (s.commit r delay .tracker).1
            else s

/-- SET DELAY (R103, R105): the delay clamped to 0 to 1023 and committed as a PORT S proposal: pending
while SHIFTING, nothing for the delay already set, D set at once with DELAY_SET where no lane is bound,
and otherwise D set and a SHIFT with the difference waiting for every bound lane, the lanes ascending; a
lane whose SHIFT of the reference waits already, which R61 says is not reached, gets no second one (log 19). What a commit does, of either
origin (R103 to R105): a tracker proposal against the last change is hunting: D, the last change and the
realign state keep their values, the hold countdown is 256 and DELAY_HUNT is raised. A tracker proposal in
the direction of the last change, or with no last change present, and any proposal from Port S, sets D and
the last change and requests the SHIFTs. -/
def Obligations.SetDelayTable : Prop :=
  (∀ (m : Message) (s : State) (r : RefId), s.takes .setDelay .portS m → m.namesRef r →
      let u := s.beginEvent
      let x := u.realign r
      let d := (max 0 (min 1023 (argWord m 0).toInt)).toNat
      let status := fun st : Status => if (argWord m 0).toInt = d then st else Status.clamped
      let change := some (if x.target < d then Direction.up else Direction.down, u.epoch)
      (x.state = .shifting → exec (.setDelay .portS m) s = .next
        ((u.setRealign r { x with proposal := some (d, .portS) }).respond .portS 0x62 (status .queued)
          [0, BitVec.ofNat 16 x.target]))
      ∧ (x.state = .idle → d = x.target → exec (.setDelay .portS m) s = .next
        (u.respond .portS 0x62 (status .ok) [3, BitVec.ofNat 16 x.target]))
      ∧ (x.state = .idle → d ≠ x.target → (∀ l, r ∉ boundRefs (u.lane l)) →
        exec (.setDelay .portS m) s = .next
          (((u.setRealign r { x with target := d, lastChange := change }).raise .delaySet r.val).respond
            .portS 0x62 (status .ok) [2, BitVec.ofNat 16 d]))
      ∧ (x.state = .idle → d ≠ x.target → (∃ l, r ∈ boundRefs (u.lane l)) →
        exec (.setDelay .portS m) s = .next
          (({ u.setRealign r { x with target := d, lastChange := change, state := .shifting } with
            engine := { u.engine with queue := u.engine.queue
              ++ ((List.finRange 16).filter fun l : LaneId => r ∈ boundRefs (u.lane l)
                  ∧ (u.lane l).state ≠ LaneState.unbound
                  ∧ ∀ e ∈ u.engine.queue, e.lane = l → e.isShiftOf r = false).map fun l : LaneId =>
                ({ kind := .shift r ((d : Int) - ((u.lane l).delays[r]).getD 0), lane := l } :
                  MaintEntry) } }).respond
            .portS 0x62 (status .queued) [1, BitVec.ofNat 16 d])))
    ∧ (∀ (s : State) (r : RefId) (d : Nat) (o : Origin), let x := s.realign r
        let s' := (s.commit r d o).1
        let x' := { x with
          target := d
          lastChange := some (if x.target < d then Direction.up else Direction.down, s.epoch) }
        let hunts := o = .tracker ∧ ∃ dir e, x.lastChange = some (dir, e)
          ∧ ((dir = .up ∧ d < x.target) ∨ (dir = .down ∧ x.target < d))
        (x.state = .shifting → s' = s.setRealign r { x with proposal := some (d, o) })
        ∧ (x.state = .idle → d = x.target → s' = s)
        ∧ (x.state = .idle → hunts →
          s' = (s.setRealign r { x with hold := 256 }).raise .delayHunt r.val)
        ∧ (x.state = .idle → d ≠ x.target → ¬hunts → (∀ l, r ∉ boundRefs (s.lane l)) →
          s' = (s.setRealign r x').raise .delaySet r.val)
        ∧ (x.state = .idle → d ≠ x.target → ¬hunts → (∃ l, r ∈ boundRefs (s.lane l)) →
          s' = { s.setRealign r { x' with state := .shifting } with
            engine := { s.engine with queue := s.engine.queue
              ++ ((List.finRange 16).filter fun l : LaneId => r ∈ boundRefs (s.lane l)
                  ∧ (s.lane l).state ≠ LaneState.unbound
                  ∧ ∀ e ∈ s.engine.queue, e.lane = l → e.isShiftOf r = false).map fun l : LaneId =>
                ({ kind := .shift r ((d : Int) - ((s.lane l).delays[r]).getD 0), lane := l } :
                  MaintEntry) } }))

/-- TRACKER CONFIG (R109): an enable other than 0 or 1 or a pilot lane outside 0 to 15 refused, and
otherwise the values stored and the tracker's state by the table. TRACKER CLEAR (R110): the lags and the
two counters cleared, everything else kept. TRACKER STATUS, in the order of R111, with one presence word
for the open onset record and one for the last change (log 15). -/
def Obligations.TrackerCommandsTable : Prop :=
  (∀ (m : Message) (s : State) (r : RefId), m.namesRef r →
      let u := s.beginEvent
      let t := u.tracker r
      let v := fun (n : Nat) (lo hi : Int) => (max lo (min hi (argWord m n).toInt)).toNat
      let kept := fun (n : Nat) (lo hi : Int) => decide (lo ≤ (argWord m n).toInt ∧ (argWord m n).toInt ≤ hi)
      (s.takes .trackerConfig .portS m → (2 ≤ argNat m 0 ∨ 16 ≤ argNat m 1) →
        exec (.trackerConfig .portS m) s = .next (u.respond .portS 0x60 .badArg []))
      ∧ (s.takes .trackerConfig .portS m → ∀ pilot : LaneId, argNat m 0 ≤ 1 → argNat m 1 = pilot.val →
        let restart := (t.enabled = false ∧ argNat m 0 = 1)
          ∨ (t.enabled = true ∧ (argNat m 0 = 0 ∨ pilot ≠ t.pilot))
        exec (.trackerConfig .portS m) s = .next
          ((u.setTracker r { t with
            enabled := decide (argNat m 0 = 1), pilot := pilot, refLevel := v 2 1 32767
            quietLevel := v 3 0 32767, quietNeed := v 4 1 15, micLevel := v 5 1 32767
            tolerance := v 6 0 63, guard := v 7 0 127
            state := if restart then (if argNat m 0 = 1 then .disarmed else .off) else t.state
            quietCount := if restart then 0 else t.quietCount
            onset := if restart then none else t.onset }).respond .portS 0x60
            (if kept 2 1 32767 && kept 3 0 32767 && kept 4 1 15 && kept 5 1 32767 && kept 6 0 63
                && kept 7 0 127 then .ok else .clamped)
            [argWord m 0, argWord m 1, BitVec.ofNat 16 (v 2 1 32767), BitVec.ofNat 16 (v 3 0 32767),
              BitVec.ofNat 16 (v 4 1 15), BitVec.ofNat 16 (v 5 1 32767), BitVec.ofNat 16 (v 6 0 63),
              BitVec.ofNat 16 (v 7 0 127)]))
      ∧ (s.takes .trackerClear .portS m → exec (.trackerClear .portS m) s = .next
        ((u.setTracker r { t with lags := [], matchCount := 0, missCount := 0 }).respond
          .portS 0x61 .ok [])))
    ∧ (∀ (p : Port) (m : Message) (s : State) (r : RefId), s.takes .trackerStatus p m → m.namesRef r →
        let u := s.beginEvent
        let t := u.tracker r
        let x := u.realign r
        exec (.trackerStatus p m) s = .next (u.respond p 0x63 .ok
          ([match t.state with | .off => 0 | .disarmed => 1 | .armed => 2 | .opened => 3,
            if t.enabled then 1 else 0, BitVec.ofNat 16 t.pilot.val, BitVec.ofNat 16 t.refLevel,
            BitVec.ofNat 16 t.quietLevel, BitVec.ofNat 16 t.quietNeed, BitVec.ofNat 16 t.micLevel,
            BitVec.ofNat 16 t.tolerance, BitVec.ofNat 16 t.guard, BitVec.ofNat 16 t.quietCount]
            ++ (match t.onset with
                | some o => [1, BitVec.ofNat 16 (o.index.toNat / 65536),
                    BitVec.ofNat 16 o.index.toNat, o.epoch]
                | none => [0, 65535, 65535, 65535])
            ++ BitVec.ofNat 16 t.lags.length :: t.lags.map (BitVec.ofNat 16)
            ++ [BitVec.ofNat 16 x.target, match x.state with | .idle => 0 | .shifting => 1,
                BitVec.ofNat 16 (u.shiftsOutstanding r)]
            ++ (match x.proposal with
                | some (d, .tracker) => [BitVec.ofNat 16 d, 0]
                | some (d, .portS) => [BitVec.ofNat 16 d, 1]
                | none => [65535, 65535])
            ++ (match x.lastChange with
                | some (.up, e) => [1, 0, e]
                | some (.down, e) => [1, 1, e]
                | none => [0, 65535, 65535])
            ++ [BitVec.ofNat 16 x.hold, t.matchCount, t.missCount])))

/-! ## The Notice Unit -/

/-- The twelve kinds and their priority numbers (R157). Raising a notice (R159, R160): on each port
separately, nothing where the kind is not enabled or the pair is pending; otherwise the pair is pending,
an armed LEVEL line is asserted, and an armed PULSE line pulses, once however many pairs enter before the
pulse ends. A pulse ends before the next event. The count of pulses, and the line shown as pulsed until the
next event begins, are the model's choice (DESIGN CHOICE, log 17). -/
def Obligations.RaiseEntersEnabledPorts : Prop :=
  ([NoticeKind.laneLockout, .laneTrip, .refStall, .delayHunt, .refResume, .delaySet, .erleLow,
      .erleLock, .outputOverrun, .frameExpired, .checkpointSkipped, .portFault].map noticePriority
      = [1, 2, 3, 4, 5, 6, 7, 8, 9, 10, 11, 12])
    ∧ (∀ (s : State) (p : Port), let n := (s.port p).notices
        (s.endPulses.port p).notices =
          { n with line := if n.line = .pulsed then .released else n.line })
    ∧ ∀ (s : State) (k : NoticeKind) (source : Nat) (p : Port),
    let n := (s.port p).notices
    let n' := ((s.raise k source).port p).notices
    let x : Notice := { kind := k, source := source }
    ((n.enabled.getLsbD (noticePriority k - 1) = false ∨ x ∈ n.pending) → n' = n)
    ∧ (n.enabled.getLsbD (noticePriority k - 1) = true → x ∉ n.pending →
        n'.pending.Perm (x :: n.pending) ∧ n'.enabled = n.enabled ∧ n'.armed = n.armed
        ∧ n'.mode = n.mode
        ∧ (n.mode = .level → n'.line = if n.armed then .asserted else .released)
        ∧ (n.mode = .pulse → n'.line = if n.armed then .pulsed else n.line)
        ∧ n'.pulses = if n.mode = .pulse ∧ n.armed = true ∧ n.line ≠ .pulsed then n.pulses + 1
            else n.pulses)

/-- NOTICE READ (R161): the first 16 entries of the pending set, fewer if there are fewer, returned in
reading order and removed; the port is disarmed and a LEVEL line released. NOTICE ARM (R162): a clear
flag is set, a LEVEL line asserted or a PULSE line pulsed if entries are pending; a flag already set
leaves everything; the number pending is answered. NOTICE CONFIG (R163): a set above bit 11 or a mode
other than 0 or 1 refused; otherwise the set and the mode stored, entries of kinds no longer enabled
removed, and the line set anew. The count of pulses, and the line shown as pulsed until the next event
begins, are the model's choice (DESIGN CHOICE, log 17). -/
def Obligations.NoticeCommandsTable : Prop :=
  (∀ (p : Port) (m : Message) (s : State), s.takes .noticeRead p m → m.target = 0 →
      let u := s.beginEvent
      let n := (u.port p).notices
      exec (.noticeRead p m) s = .next
        ((u.setPort p { u.port p with notices := { n with
            pending := n.pending.drop 16, armed := false
            line := if n.mode = .level then .released else n.line } }).respond p 0x90 .ok
          (BitVec.ofNat 16 (min 16 n.pending.length) :: BitVec.ofNat 16 (n.pending.length - 16)
            :: (n.pending.take 16).flatMap fun x =>
              [BitVec.ofNat 16 (noticePriority x.kind), BitVec.ofNat 16 x.source])))
    ∧ (∀ (p : Port) (m : Message) (s : State), s.takes .noticeArm p m → m.target = 0 →
        let u := s.beginEvent
        let n := (u.port p).notices
        exec (.noticeArm p m) s = .next
          ((if n.armed then u
            else u.setPort p { u.port p with notices := { n with
              armed := true
              line := match n.mode, n.pending with
                | .level, [] => .released
                | .level, _ :: _ => .asserted
                | .pulse, [] => n.line
                | .pulse, _ :: _ => .pulsed
              pulses := match n.mode, n.pending with
                | .level, _ => n.pulses
                | .pulse, [] => n.pulses
                | .pulse, _ :: _ => n.pulses + 1 } }).respond p 0x92 .ok [BitVec.ofNat 16 n.pending.length]))
    ∧ (∀ (p : Port) (m : Message) (s : State), s.takes .noticeConfig p m → m.target = 0 →
        let u := s.beginEvent
        let n := (u.port p).notices
        let pending := n.pending.filter fun x => (argWord m 0).getLsbD (noticePriority x.kind - 1)
        ((4096 ≤ argNat m 0 ∨ 2 ≤ argNat m 1) →
          exec (.noticeConfig p m) s = .next (u.respond p 0x91 .badArg []))
        ∧ (argNat m 0 < 4096 → argNat m 1 ≤ 1 → exec (.noticeConfig p m) s = .next
            ((u.setPort p { u.port p with notices := {
                enabled := (argWord m 0).extractLsb' 0 12, pending := pending, armed := n.armed
                pulses := n.pulses
                mode := if argNat m 1 = 0 then .level else .pulse
                line := if argNat m 1 = 0 ∧ n.armed = true ∧ pending ≠ [] then .asserted
                  else .released } }).respond p 0x91 .ok
              [argWord m 0, argWord m 1, if n.armed then 1 else 0, BitVec.ofNat 16 pending.length])))

/-! ## Invariants of every step -/

/-- At reset every invariant holds. -/
def Obligations.InvariantsHoldAtReset : Prop :=
  State.reset.refsOk ∧ State.reset.trackersOk ∧ State.reset.lanesOk ∧ State.reset.realignsOk
    ∧ State.reset.store.ok ∧ State.reset.engine.ok ∧ State.reset.noticesOk

/-- Every step keeps the reference records as R2 says, and the tracker records as R95 says. -/
def Obligations.ReferenceAndTrackerInvariantKept : Prop :=
  (∀ s s' : State, s.refsOk → step s = .next s' → s'.refsOk)
    ∧ (∀ s s' : State, s.trackersOk → step s = .next s' → s'.trackersOk)

/-- Every step keeps the lane records as R20, R83, R122 and R130 say, and the engine's work that of
bound lanes. -/
def Obligations.LaneInvariantKept : Prop :=
  ∀ s s' : State, s.lanesOk → step s = .next s' → s'.lanesOk

/-- Every step keeps each realign SHIFTING exactly while a SHIFT of its reference waits or runs (R94). -/
def Obligations.RealignInvariantKept : Prop :=
  ∀ s s' : State, s.realignsOk → step s = .next s' → s'.realignsOk

/-- Every step keeps every FREE partition zero (R48) and the scrubber on a SCRUB partition (R47), and
the Maintenance Queue free of repeats (R60) and the budget at most 128 (R77). -/
def Obligations.StoreAndEngineInvariantKept : Prop :=
  (∀ s s' : State, s.store.ok → step s = .next s' → s'.store.ok)
    ∧ (∀ s s' : State, s.engine.ok → step s = .next s' → s'.engine.ok)

/-- Every step keeps the pending sets in order without repeats and the attention lines as R160 says. -/
def Obligations.NoticeInvariantKept : Prop :=
  ∀ s s' : State, s.noticesOk → step s = .next s' → s'.noticesOk

/-! ## The words of a command -/

/-- The words of any command, of any kind or of a code that names none, are read back as that command,
with whatever words the master clocks after its last declared one. -/
def Obligations.CommandWordsReadBack : Prop :=
  ∀ (p : Port) (m : Message) (more : List Word), messageComplete m = true →
    (∀ k : Kind, decodeCommand p (commandWords (kindCode k) m ++ more) = some (instrOfKind k p m))
      ∧ ∀ code, kindOfCode code = none →
          decodeCommand p (commandWords code m ++ more) = some (.unknownKind p code m)
end

