-- ==== Sys2Proof/Laws/State.lean ====
section
/-! SUPPORT. One lemma for each field and each update of the state, and what each record reads as after
each update. -/

namespace Sys2Proof.Machine

/-! ## Replacing a record -/

@[simp] theorem State.setRef_epoch (s : State) (r : RefId) (x : Reference) :
    (s.setRef r x).epoch = s.epoch := rfl
@[simp] theorem State.setRef_resetLow (s : State) (r : RefId) (x : Reference) :
    (s.setRef r x).resetLow = s.resetLow := rfl
@[simp] theorem State.setRef_realigns (s : State) (r : RefId) (x : Reference) :
    (s.setRef r x).realigns = s.realigns := rfl
@[simp] theorem State.setRef_trackers (s : State) (r : RefId) (x : Reference) :
    (s.setRef r x).trackers = s.trackers := rfl
@[simp] theorem State.setRef_lanes (s : State) (r : RefId) (x : Reference) :
    (s.setRef r x).lanes = s.lanes := rfl
@[simp] theorem State.setRef_store (s : State) (r : RefId) (x : Reference) :
    (s.setRef r x).store = s.store := rfl
@[simp] theorem State.setRef_checkpoints (s : State) (r : RefId) (x : Reference) :
    (s.setRef r x).checkpoints = s.checkpoints := rfl
@[simp] theorem State.setRef_engine (s : State) (r : RefId) (x : Reference) :
    (s.setRef r x).engine = s.engine := rfl
@[simp] theorem State.setRef_ports (s : State) (r : RefId) (x : Reference) :
    (s.setRef r x).ports = s.ports := rfl
@[simp] theorem State.setRef_due (s : State) (r : RefId) (x : Reference) :
    (s.setRef r x).due = s.due := rfl
@[simp] theorem State.setRef_pending (s : State) (r : RefId) (x : Reference) :
    (s.setRef r x).pending = s.pending := rfl
@[simp] theorem State.setRef_scrubAbandoned (s : State) (r : RefId) (x : Reference) :
    (s.setRef r x).scrubAbandoned = s.scrubAbandoned := rfl

@[simp] theorem State.setRealign_epoch (s : State) (r : RefId) (x : Realign) :
    (s.setRealign r x).epoch = s.epoch := rfl
@[simp] theorem State.setRealign_resetLow (s : State) (r : RefId) (x : Realign) :
    (s.setRealign r x).resetLow = s.resetLow := rfl
@[simp] theorem State.setRealign_refs (s : State) (r : RefId) (x : Realign) :
    (s.setRealign r x).refs = s.refs := rfl
@[simp] theorem State.setRealign_trackers (s : State) (r : RefId) (x : Realign) :
    (s.setRealign r x).trackers = s.trackers := rfl
@[simp] theorem State.setRealign_lanes (s : State) (r : RefId) (x : Realign) :
    (s.setRealign r x).lanes = s.lanes := rfl
@[simp] theorem State.setRealign_store (s : State) (r : RefId) (x : Realign) :
    (s.setRealign r x).store = s.store := rfl
@[simp] theorem State.setRealign_checkpoints (s : State) (r : RefId) (x : Realign) :
    (s.setRealign r x).checkpoints = s.checkpoints := rfl
@[simp] theorem State.setRealign_engine (s : State) (r : RefId) (x : Realign) :
    (s.setRealign r x).engine = s.engine := rfl
@[simp] theorem State.setRealign_ports (s : State) (r : RefId) (x : Realign) :
    (s.setRealign r x).ports = s.ports := rfl
@[simp] theorem State.setRealign_due (s : State) (r : RefId) (x : Realign) :
    (s.setRealign r x).due = s.due := rfl
@[simp] theorem State.setRealign_pending (s : State) (r : RefId) (x : Realign) :
    (s.setRealign r x).pending = s.pending := rfl
@[simp] theorem State.setRealign_scrubAbandoned (s : State) (r : RefId) (x : Realign) :
    (s.setRealign r x).scrubAbandoned = s.scrubAbandoned := rfl

@[simp] theorem State.setTracker_epoch (s : State) (r : RefId) (x : Tracker) :
    (s.setTracker r x).epoch = s.epoch := rfl
@[simp] theorem State.setTracker_resetLow (s : State) (r : RefId) (x : Tracker) :
    (s.setTracker r x).resetLow = s.resetLow := rfl
@[simp] theorem State.setTracker_refs (s : State) (r : RefId) (x : Tracker) :
    (s.setTracker r x).refs = s.refs := rfl
@[simp] theorem State.setTracker_realigns (s : State) (r : RefId) (x : Tracker) :
    (s.setTracker r x).realigns = s.realigns := rfl
@[simp] theorem State.setTracker_lanes (s : State) (r : RefId) (x : Tracker) :
    (s.setTracker r x).lanes = s.lanes := rfl
@[simp] theorem State.setTracker_store (s : State) (r : RefId) (x : Tracker) :
    (s.setTracker r x).store = s.store := rfl
@[simp] theorem State.setTracker_checkpoints (s : State) (r : RefId) (x : Tracker) :
    (s.setTracker r x).checkpoints = s.checkpoints := rfl
@[simp] theorem State.setTracker_engine (s : State) (r : RefId) (x : Tracker) :
    (s.setTracker r x).engine = s.engine := rfl
@[simp] theorem State.setTracker_ports (s : State) (r : RefId) (x : Tracker) :
    (s.setTracker r x).ports = s.ports := rfl
@[simp] theorem State.setTracker_due (s : State) (r : RefId) (x : Tracker) :
    (s.setTracker r x).due = s.due := rfl
@[simp] theorem State.setTracker_pending (s : State) (r : RefId) (x : Tracker) :
    (s.setTracker r x).pending = s.pending := rfl
@[simp] theorem State.setTracker_scrubAbandoned (s : State) (r : RefId) (x : Tracker) :
    (s.setTracker r x).scrubAbandoned = s.scrubAbandoned := rfl

@[simp] theorem State.setLane_epoch (s : State) (l : LaneId) (x : Lane) :
    (s.setLane l x).epoch = s.epoch := rfl
@[simp] theorem State.setLane_resetLow (s : State) (l : LaneId) (x : Lane) :
    (s.setLane l x).resetLow = s.resetLow := rfl
@[simp] theorem State.setLane_refs (s : State) (l : LaneId) (x : Lane) :
    (s.setLane l x).refs = s.refs := rfl
@[simp] theorem State.setLane_realigns (s : State) (l : LaneId) (x : Lane) :
    (s.setLane l x).realigns = s.realigns := rfl
@[simp] theorem State.setLane_trackers (s : State) (l : LaneId) (x : Lane) :
    (s.setLane l x).trackers = s.trackers := rfl
@[simp] theorem State.setLane_store (s : State) (l : LaneId) (x : Lane) :
    (s.setLane l x).store = s.store := rfl
@[simp] theorem State.setLane_checkpoints (s : State) (l : LaneId) (x : Lane) :
    (s.setLane l x).checkpoints = s.checkpoints := rfl
@[simp] theorem State.setLane_engine (s : State) (l : LaneId) (x : Lane) :
    (s.setLane l x).engine = s.engine := rfl
@[simp] theorem State.setLane_ports (s : State) (l : LaneId) (x : Lane) :
    (s.setLane l x).ports = s.ports := rfl
@[simp] theorem State.setLane_due (s : State) (l : LaneId) (x : Lane) :
    (s.setLane l x).due = s.due := rfl
@[simp] theorem State.setLane_pending (s : State) (l : LaneId) (x : Lane) :
    (s.setLane l x).pending = s.pending := rfl
@[simp] theorem State.setLane_scrubAbandoned (s : State) (l : LaneId) (x : Lane) :
    (s.setLane l x).scrubAbandoned = s.scrubAbandoned := rfl

@[simp] theorem State.setPort_epoch (s : State) (p : Port) (x : PortState) :
    (s.setPort p x).epoch = s.epoch := rfl
@[simp] theorem State.setPort_resetLow (s : State) (p : Port) (x : PortState) :
    (s.setPort p x).resetLow = s.resetLow := rfl
@[simp] theorem State.setPort_refs (s : State) (p : Port) (x : PortState) :
    (s.setPort p x).refs = s.refs := rfl
@[simp] theorem State.setPort_realigns (s : State) (p : Port) (x : PortState) :
    (s.setPort p x).realigns = s.realigns := rfl
@[simp] theorem State.setPort_trackers (s : State) (p : Port) (x : PortState) :
    (s.setPort p x).trackers = s.trackers := rfl
@[simp] theorem State.setPort_lanes (s : State) (p : Port) (x : PortState) :
    (s.setPort p x).lanes = s.lanes := rfl
@[simp] theorem State.setPort_store (s : State) (p : Port) (x : PortState) :
    (s.setPort p x).store = s.store := rfl
@[simp] theorem State.setPort_checkpoints (s : State) (p : Port) (x : PortState) :
    (s.setPort p x).checkpoints = s.checkpoints := rfl
@[simp] theorem State.setPort_engine (s : State) (p : Port) (x : PortState) :
    (s.setPort p x).engine = s.engine := rfl
@[simp] theorem State.setPort_due (s : State) (p : Port) (x : PortState) :
    (s.setPort p x).due = s.due := rfl
@[simp] theorem State.setPort_pending (s : State) (p : Port) (x : PortState) :
    (s.setPort p x).pending = s.pending := rfl
@[simp] theorem State.setPort_scrubAbandoned (s : State) (p : Port) (x : PortState) :
    (s.setPort p x).scrubAbandoned = s.scrubAbandoned := rfl

@[simp] theorem State.setDecoder_epoch (s : State) (p : Port) (d : Decoder) :
    (s.setDecoder p d).epoch = s.epoch := rfl
@[simp] theorem State.setDecoder_resetLow (s : State) (p : Port) (d : Decoder) :
    (s.setDecoder p d).resetLow = s.resetLow := rfl
@[simp] theorem State.setDecoder_refs (s : State) (p : Port) (d : Decoder) :
    (s.setDecoder p d).refs = s.refs := rfl
@[simp] theorem State.setDecoder_realigns (s : State) (p : Port) (d : Decoder) :
    (s.setDecoder p d).realigns = s.realigns := rfl
@[simp] theorem State.setDecoder_trackers (s : State) (p : Port) (d : Decoder) :
    (s.setDecoder p d).trackers = s.trackers := rfl
@[simp] theorem State.setDecoder_lanes (s : State) (p : Port) (d : Decoder) :
    (s.setDecoder p d).lanes = s.lanes := rfl
@[simp] theorem State.setDecoder_store (s : State) (p : Port) (d : Decoder) :
    (s.setDecoder p d).store = s.store := rfl
@[simp] theorem State.setDecoder_checkpoints (s : State) (p : Port) (d : Decoder) :
    (s.setDecoder p d).checkpoints = s.checkpoints := rfl
@[simp] theorem State.setDecoder_engine (s : State) (p : Port) (d : Decoder) :
    (s.setDecoder p d).engine = s.engine := rfl
@[simp] theorem State.setDecoder_due (s : State) (p : Port) (d : Decoder) :
    (s.setDecoder p d).due = s.due := rfl
@[simp] theorem State.setDecoder_pending (s : State) (p : Port) (d : Decoder) :
    (s.setDecoder p d).pending = s.pending := rfl
@[simp] theorem State.setDecoder_scrubAbandoned (s : State) (p : Port) (d : Decoder) :
    (s.setDecoder p d).scrubAbandoned = s.scrubAbandoned := rfl

@[simp] theorem State.respond_epoch (s : State) (p : Port) (c : Byte) (st : Status) (ws : List Word) :
    (s.respond p c st ws).epoch = s.epoch := rfl
@[simp] theorem State.respond_resetLow (s : State) (p : Port) (c : Byte) (st : Status) (ws : List Word) :
    (s.respond p c st ws).resetLow = s.resetLow := rfl
@[simp] theorem State.respond_refs (s : State) (p : Port) (c : Byte) (st : Status) (ws : List Word) :
    (s.respond p c st ws).refs = s.refs := rfl
@[simp] theorem State.respond_realigns (s : State) (p : Port) (c : Byte) (st : Status) (ws : List Word) :
    (s.respond p c st ws).realigns = s.realigns := rfl
@[simp] theorem State.respond_trackers (s : State) (p : Port) (c : Byte) (st : Status) (ws : List Word) :
    (s.respond p c st ws).trackers = s.trackers := rfl
@[simp] theorem State.respond_lanes (s : State) (p : Port) (c : Byte) (st : Status) (ws : List Word) :
    (s.respond p c st ws).lanes = s.lanes := rfl
@[simp] theorem State.respond_store (s : State) (p : Port) (c : Byte) (st : Status) (ws : List Word) :
    (s.respond p c st ws).store = s.store := rfl
@[simp] theorem State.respond_checkpoints (s : State) (p : Port) (c : Byte) (st : Status) (ws : List Word) :
    (s.respond p c st ws).checkpoints = s.checkpoints := rfl
@[simp] theorem State.respond_engine (s : State) (p : Port) (c : Byte) (st : Status) (ws : List Word) :
    (s.respond p c st ws).engine = s.engine := rfl
@[simp] theorem State.respond_due (s : State) (p : Port) (c : Byte) (st : Status) (ws : List Word) :
    (s.respond p c st ws).due = s.due := rfl
@[simp] theorem State.respond_pending (s : State) (p : Port) (c : Byte) (st : Status) (ws : List Word) :
    (s.respond p c st ws).pending = s.pending := rfl
@[simp] theorem State.respond_scrubAbandoned (s : State) (p : Port) (c : Byte) (st : Status) (ws : List Word) :
    (s.respond p c st ws).scrubAbandoned = s.scrubAbandoned := rfl

@[simp] theorem State.setNotices_epoch (s : State) (p : Port) (n : Notices) :
    (s.setNotices p n).epoch = s.epoch := rfl
@[simp] theorem State.setNotices_resetLow (s : State) (p : Port) (n : Notices) :
    (s.setNotices p n).resetLow = s.resetLow := rfl
@[simp] theorem State.setNotices_refs (s : State) (p : Port) (n : Notices) :
    (s.setNotices p n).refs = s.refs := rfl
@[simp] theorem State.setNotices_realigns (s : State) (p : Port) (n : Notices) :
    (s.setNotices p n).realigns = s.realigns := rfl
@[simp] theorem State.setNotices_trackers (s : State) (p : Port) (n : Notices) :
    (s.setNotices p n).trackers = s.trackers := rfl
@[simp] theorem State.setNotices_lanes (s : State) (p : Port) (n : Notices) :
    (s.setNotices p n).lanes = s.lanes := rfl
@[simp] theorem State.setNotices_store (s : State) (p : Port) (n : Notices) :
    (s.setNotices p n).store = s.store := rfl
@[simp] theorem State.setNotices_checkpoints (s : State) (p : Port) (n : Notices) :
    (s.setNotices p n).checkpoints = s.checkpoints := rfl
@[simp] theorem State.setNotices_engine (s : State) (p : Port) (n : Notices) :
    (s.setNotices p n).engine = s.engine := rfl
@[simp] theorem State.setNotices_due (s : State) (p : Port) (n : Notices) :
    (s.setNotices p n).due = s.due := rfl
@[simp] theorem State.setNotices_pending (s : State) (p : Port) (n : Notices) :
    (s.setNotices p n).pending = s.pending := rfl
@[simp] theorem State.setNotices_scrubAbandoned (s : State) (p : Port) (n : Notices) :
    (s.setNotices p n).scrubAbandoned = s.scrubAbandoned := rfl

@[simp] theorem State.countTruncated_epoch (s : State) (p : Port) :
    (s.countTruncated p).epoch = s.epoch := rfl
@[simp] theorem State.countTruncated_resetLow (s : State) (p : Port) :
    (s.countTruncated p).resetLow = s.resetLow := rfl
@[simp] theorem State.countTruncated_refs (s : State) (p : Port) :
    (s.countTruncated p).refs = s.refs := rfl
@[simp] theorem State.countTruncated_realigns (s : State) (p : Port) :
    (s.countTruncated p).realigns = s.realigns := rfl
@[simp] theorem State.countTruncated_trackers (s : State) (p : Port) :
    (s.countTruncated p).trackers = s.trackers := rfl
@[simp] theorem State.countTruncated_lanes (s : State) (p : Port) :
    (s.countTruncated p).lanes = s.lanes := rfl
@[simp] theorem State.countTruncated_store (s : State) (p : Port) :
    (s.countTruncated p).store = s.store := rfl
@[simp] theorem State.countTruncated_checkpoints (s : State) (p : Port) :
    (s.countTruncated p).checkpoints = s.checkpoints := rfl
@[simp] theorem State.countTruncated_engine (s : State) (p : Port) :
    (s.countTruncated p).engine = s.engine := rfl
@[simp] theorem State.countTruncated_due (s : State) (p : Port) :
    (s.countTruncated p).due = s.due := rfl
@[simp] theorem State.countTruncated_pending (s : State) (p : Port) :
    (s.countTruncated p).pending = s.pending := rfl
@[simp] theorem State.countTruncated_scrubAbandoned (s : State) (p : Port) :
    (s.countTruncated p).scrubAbandoned = s.scrubAbandoned := rfl

@[simp] theorem State.countUnknown_epoch (s : State) (p : Port) :
    (s.countUnknown p).epoch = s.epoch := rfl
@[simp] theorem State.countUnknown_resetLow (s : State) (p : Port) :
    (s.countUnknown p).resetLow = s.resetLow := rfl
@[simp] theorem State.countUnknown_refs (s : State) (p : Port) :
    (s.countUnknown p).refs = s.refs := rfl
@[simp] theorem State.countUnknown_realigns (s : State) (p : Port) :
    (s.countUnknown p).realigns = s.realigns := rfl
@[simp] theorem State.countUnknown_trackers (s : State) (p : Port) :
    (s.countUnknown p).trackers = s.trackers := rfl
@[simp] theorem State.countUnknown_lanes (s : State) (p : Port) :
    (s.countUnknown p).lanes = s.lanes := rfl
@[simp] theorem State.countUnknown_store (s : State) (p : Port) :
    (s.countUnknown p).store = s.store := rfl
@[simp] theorem State.countUnknown_checkpoints (s : State) (p : Port) :
    (s.countUnknown p).checkpoints = s.checkpoints := rfl
@[simp] theorem State.countUnknown_engine (s : State) (p : Port) :
    (s.countUnknown p).engine = s.engine := rfl
@[simp] theorem State.countUnknown_due (s : State) (p : Port) :
    (s.countUnknown p).due = s.due := rfl
@[simp] theorem State.countUnknown_pending (s : State) (p : Port) :
    (s.countUnknown p).pending = s.pending := rfl
@[simp] theorem State.countUnknown_scrubAbandoned (s : State) (p : Port) :
    (s.countUnknown p).scrubAbandoned = s.scrubAbandoned := rfl

/-! ## Raising a notice, ending pulses -/

@[simp] theorem State.raise_epoch (s : State) (k : NoticeKind) (n : Nat) :
    (s.raise k n).epoch = s.epoch := rfl
@[simp] theorem State.raise_resetLow (s : State) (k : NoticeKind) (n : Nat) :
    (s.raise k n).resetLow = s.resetLow := rfl
@[simp] theorem State.raise_refs (s : State) (k : NoticeKind) (n : Nat) :
    (s.raise k n).refs = s.refs := rfl
@[simp] theorem State.raise_realigns (s : State) (k : NoticeKind) (n : Nat) :
    (s.raise k n).realigns = s.realigns := rfl
@[simp] theorem State.raise_trackers (s : State) (k : NoticeKind) (n : Nat) :
    (s.raise k n).trackers = s.trackers := rfl
@[simp] theorem State.raise_lanes (s : State) (k : NoticeKind) (n : Nat) :
    (s.raise k n).lanes = s.lanes := rfl
@[simp] theorem State.raise_store (s : State) (k : NoticeKind) (n : Nat) :
    (s.raise k n).store = s.store := rfl
@[simp] theorem State.raise_checkpoints (s : State) (k : NoticeKind) (n : Nat) :
    (s.raise k n).checkpoints = s.checkpoints := rfl
@[simp] theorem State.raise_engine (s : State) (k : NoticeKind) (n : Nat) :
    (s.raise k n).engine = s.engine := rfl
@[simp] theorem State.raise_due (s : State) (k : NoticeKind) (n : Nat) :
    (s.raise k n).due = s.due := rfl
@[simp] theorem State.raise_pending (s : State) (k : NoticeKind) (n : Nat) :
    (s.raise k n).pending = s.pending := rfl
@[simp] theorem State.raise_scrubAbandoned (s : State) (k : NoticeKind) (n : Nat) :
    (s.raise k n).scrubAbandoned = s.scrubAbandoned := rfl

@[simp] theorem State.raiseLane_epoch (s : State) (k : NoticeKind) (l : LaneId) :
    (s.raiseLane k l).epoch = s.epoch := rfl
@[simp] theorem State.raiseLane_resetLow (s : State) (k : NoticeKind) (l : LaneId) :
    (s.raiseLane k l).resetLow = s.resetLow := rfl
@[simp] theorem State.raiseLane_refs (s : State) (k : NoticeKind) (l : LaneId) :
    (s.raiseLane k l).refs = s.refs := rfl
@[simp] theorem State.raiseLane_realigns (s : State) (k : NoticeKind) (l : LaneId) :
    (s.raiseLane k l).realigns = s.realigns := rfl
@[simp] theorem State.raiseLane_trackers (s : State) (k : NoticeKind) (l : LaneId) :
    (s.raiseLane k l).trackers = s.trackers := rfl
@[simp] theorem State.raiseLane_lanes (s : State) (k : NoticeKind) (l : LaneId) :
    (s.raiseLane k l).lanes = s.lanes := rfl
@[simp] theorem State.raiseLane_store (s : State) (k : NoticeKind) (l : LaneId) :
    (s.raiseLane k l).store = s.store := rfl
@[simp] theorem State.raiseLane_checkpoints (s : State) (k : NoticeKind) (l : LaneId) :
    (s.raiseLane k l).checkpoints = s.checkpoints := rfl
@[simp] theorem State.raiseLane_engine (s : State) (k : NoticeKind) (l : LaneId) :
    (s.raiseLane k l).engine = s.engine := rfl
@[simp] theorem State.raiseLane_due (s : State) (k : NoticeKind) (l : LaneId) :
    (s.raiseLane k l).due = s.due := rfl
@[simp] theorem State.raiseLane_pending (s : State) (k : NoticeKind) (l : LaneId) :
    (s.raiseLane k l).pending = s.pending := rfl
@[simp] theorem State.raiseLane_scrubAbandoned (s : State) (k : NoticeKind) (l : LaneId) :
    (s.raiseLane k l).scrubAbandoned = s.scrubAbandoned := rfl

@[simp] theorem State.raiseRef_epoch (s : State) (k : NoticeKind) (r : RefId) :
    (s.raiseRef k r).epoch = s.epoch := rfl
@[simp] theorem State.raiseRef_resetLow (s : State) (k : NoticeKind) (r : RefId) :
    (s.raiseRef k r).resetLow = s.resetLow := rfl
@[simp] theorem State.raiseRef_refs (s : State) (k : NoticeKind) (r : RefId) :
    (s.raiseRef k r).refs = s.refs := rfl
@[simp] theorem State.raiseRef_realigns (s : State) (k : NoticeKind) (r : RefId) :
    (s.raiseRef k r).realigns = s.realigns := rfl
@[simp] theorem State.raiseRef_trackers (s : State) (k : NoticeKind) (r : RefId) :
    (s.raiseRef k r).trackers = s.trackers := rfl
@[simp] theorem State.raiseRef_lanes (s : State) (k : NoticeKind) (r : RefId) :
    (s.raiseRef k r).lanes = s.lanes := rfl
@[simp] theorem State.raiseRef_store (s : State) (k : NoticeKind) (r : RefId) :
    (s.raiseRef k r).store = s.store := rfl
@[simp] theorem State.raiseRef_checkpoints (s : State) (k : NoticeKind) (r : RefId) :
    (s.raiseRef k r).checkpoints = s.checkpoints := rfl
@[simp] theorem State.raiseRef_engine (s : State) (k : NoticeKind) (r : RefId) :
    (s.raiseRef k r).engine = s.engine := rfl
@[simp] theorem State.raiseRef_due (s : State) (k : NoticeKind) (r : RefId) :
    (s.raiseRef k r).due = s.due := rfl
@[simp] theorem State.raiseRef_pending (s : State) (k : NoticeKind) (r : RefId) :
    (s.raiseRef k r).pending = s.pending := rfl
@[simp] theorem State.raiseRef_scrubAbandoned (s : State) (k : NoticeKind) (r : RefId) :
    (s.raiseRef k r).scrubAbandoned = s.scrubAbandoned := rfl

@[simp] theorem State.endPulses_epoch (s : State)  :
    (s.endPulses).epoch = s.epoch := rfl
@[simp] theorem State.endPulses_resetLow (s : State)  :
    (s.endPulses).resetLow = s.resetLow := rfl
@[simp] theorem State.endPulses_refs (s : State)  :
    (s.endPulses).refs = s.refs := rfl
@[simp] theorem State.endPulses_realigns (s : State)  :
    (s.endPulses).realigns = s.realigns := rfl
@[simp] theorem State.endPulses_trackers (s : State)  :
    (s.endPulses).trackers = s.trackers := rfl
@[simp] theorem State.endPulses_lanes (s : State)  :
    (s.endPulses).lanes = s.lanes := rfl
@[simp] theorem State.endPulses_store (s : State)  :
    (s.endPulses).store = s.store := rfl
@[simp] theorem State.endPulses_checkpoints (s : State)  :
    (s.endPulses).checkpoints = s.checkpoints := rfl
@[simp] theorem State.endPulses_engine (s : State)  :
    (s.endPulses).engine = s.engine := rfl
@[simp] theorem State.endPulses_due (s : State)  :
    (s.endPulses).due = s.due := rfl
@[simp] theorem State.endPulses_pending (s : State)  :
    (s.endPulses).pending = s.pending := rfl
@[simp] theorem State.endPulses_scrubAbandoned (s : State)  :
    (s.endPulses).scrubAbandoned = s.scrubAbandoned := rfl

/-! ## The Maintenance Queue, the stores -/

@[simp] theorem State.request_epoch (s : State) (l : LaneId) (k : MaintKind) :
    (s.request l k).epoch = s.epoch := by
  unfold State.request; dsimp only; split <;> rfl
@[simp] theorem State.request_resetLow (s : State) (l : LaneId) (k : MaintKind) :
    (s.request l k).resetLow = s.resetLow := by
  unfold State.request; dsimp only; split <;> rfl
@[simp] theorem State.request_refs (s : State) (l : LaneId) (k : MaintKind) :
    (s.request l k).refs = s.refs := by
  unfold State.request; dsimp only; split <;> rfl
@[simp] theorem State.request_realigns (s : State) (l : LaneId) (k : MaintKind) :
    (s.request l k).realigns = s.realigns := by
  unfold State.request; dsimp only; split <;> rfl
@[simp] theorem State.request_trackers (s : State) (l : LaneId) (k : MaintKind) :
    (s.request l k).trackers = s.trackers := by
  unfold State.request; dsimp only; split <;> rfl
@[simp] theorem State.request_lanes (s : State) (l : LaneId) (k : MaintKind) :
    (s.request l k).lanes = s.lanes := by
  unfold State.request; dsimp only; split <;> rfl
@[simp] theorem State.request_store (s : State) (l : LaneId) (k : MaintKind) :
    (s.request l k).store = s.store := by
  unfold State.request; dsimp only; split <;> rfl
@[simp] theorem State.request_checkpoints (s : State) (l : LaneId) (k : MaintKind) :
    (s.request l k).checkpoints = s.checkpoints := by
  unfold State.request; dsimp only; split <;> rfl
@[simp] theorem State.request_ports (s : State) (l : LaneId) (k : MaintKind) :
    (s.request l k).ports = s.ports := by
  unfold State.request; dsimp only; split <;> rfl
@[simp] theorem State.request_due (s : State) (l : LaneId) (k : MaintKind) :
    (s.request l k).due = s.due := by
  unfold State.request; dsimp only; split <;> rfl
@[simp] theorem State.request_pending (s : State) (l : LaneId) (k : MaintKind) :
    (s.request l k).pending = s.pending := by
  unfold State.request; dsimp only; split <;> rfl
@[simp] theorem State.request_scrubAbandoned (s : State) (l : LaneId) (k : MaintKind) :
    (s.request l k).scrubAbandoned = s.scrubAbandoned := by
  unfold State.request; dsimp only; split <;> rfl

@[simp] theorem State.removeEntries_epoch (s : State) (p : MaintEntry → Bool) :
    (s.removeEntries p).epoch = s.epoch := rfl
@[simp] theorem State.removeEntries_resetLow (s : State) (p : MaintEntry → Bool) :
    (s.removeEntries p).resetLow = s.resetLow := rfl
@[simp] theorem State.removeEntries_refs (s : State) (p : MaintEntry → Bool) :
    (s.removeEntries p).refs = s.refs := rfl
@[simp] theorem State.removeEntries_realigns (s : State) (p : MaintEntry → Bool) :
    (s.removeEntries p).realigns = s.realigns := rfl
@[simp] theorem State.removeEntries_trackers (s : State) (p : MaintEntry → Bool) :
    (s.removeEntries p).trackers = s.trackers := rfl
@[simp] theorem State.removeEntries_lanes (s : State) (p : MaintEntry → Bool) :
    (s.removeEntries p).lanes = s.lanes := rfl
@[simp] theorem State.removeEntries_store (s : State) (p : MaintEntry → Bool) :
    (s.removeEntries p).store = s.store := rfl
@[simp] theorem State.removeEntries_checkpoints (s : State) (p : MaintEntry → Bool) :
    (s.removeEntries p).checkpoints = s.checkpoints := rfl
@[simp] theorem State.removeEntries_ports (s : State) (p : MaintEntry → Bool) :
    (s.removeEntries p).ports = s.ports := rfl
@[simp] theorem State.removeEntries_due (s : State) (p : MaintEntry → Bool) :
    (s.removeEntries p).due = s.due := rfl
@[simp] theorem State.removeEntries_pending (s : State) (p : MaintEntry → Bool) :
    (s.removeEntries p).pending = s.pending := rfl
@[simp] theorem State.removeEntries_scrubAbandoned (s : State) (p : MaintEntry → Bool) :
    (s.removeEntries p).scrubAbandoned = s.scrubAbandoned := rfl

@[simp] theorem State.engineIdle_epoch (s : State)  :
    (s.engineIdle).epoch = s.epoch := rfl
@[simp] theorem State.engineIdle_resetLow (s : State)  :
    (s.engineIdle).resetLow = s.resetLow := rfl
@[simp] theorem State.engineIdle_refs (s : State)  :
    (s.engineIdle).refs = s.refs := rfl
@[simp] theorem State.engineIdle_realigns (s : State)  :
    (s.engineIdle).realigns = s.realigns := rfl
@[simp] theorem State.engineIdle_trackers (s : State)  :
    (s.engineIdle).trackers = s.trackers := rfl
@[simp] theorem State.engineIdle_lanes (s : State)  :
    (s.engineIdle).lanes = s.lanes := rfl
@[simp] theorem State.engineIdle_store (s : State)  :
    (s.engineIdle).store = s.store := rfl
@[simp] theorem State.engineIdle_checkpoints (s : State)  :
    (s.engineIdle).checkpoints = s.checkpoints := rfl
@[simp] theorem State.engineIdle_ports (s : State)  :
    (s.engineIdle).ports = s.ports := rfl
@[simp] theorem State.engineIdle_due (s : State)  :
    (s.engineIdle).due = s.due := rfl
@[simp] theorem State.engineIdle_pending (s : State)  :
    (s.engineIdle).pending = s.pending := rfl
@[simp] theorem State.engineIdle_scrubAbandoned (s : State)  :
    (s.engineIdle).scrubAbandoned = s.scrubAbandoned := rfl

@[simp] theorem State.startScrubber_epoch (s : State)  :
    (s.startScrubber).epoch = s.epoch := rfl
@[simp] theorem State.startScrubber_resetLow (s : State)  :
    (s.startScrubber).resetLow = s.resetLow := rfl
@[simp] theorem State.startScrubber_refs (s : State)  :
    (s.startScrubber).refs = s.refs := rfl
@[simp] theorem State.startScrubber_realigns (s : State)  :
    (s.startScrubber).realigns = s.realigns := rfl
@[simp] theorem State.startScrubber_trackers (s : State)  :
    (s.startScrubber).trackers = s.trackers := rfl
@[simp] theorem State.startScrubber_lanes (s : State)  :
    (s.startScrubber).lanes = s.lanes := rfl
@[simp] theorem State.startScrubber_checkpoints (s : State)  :
    (s.startScrubber).checkpoints = s.checkpoints := rfl
@[simp] theorem State.startScrubber_engine (s : State)  :
    (s.startScrubber).engine = s.engine := rfl
@[simp] theorem State.startScrubber_ports (s : State)  :
    (s.startScrubber).ports = s.ports := rfl
@[simp] theorem State.startScrubber_due (s : State)  :
    (s.startScrubber).due = s.due := rfl
@[simp] theorem State.startScrubber_pending (s : State)  :
    (s.startScrubber).pending = s.pending := rfl
@[simp] theorem State.startScrubber_scrubAbandoned (s : State)  :
    (s.startScrubber).scrubAbandoned = s.scrubAbandoned := rfl

@[simp] theorem State.writeChains_epoch (s : State) (l : LaneId) (cs : Chains) :
    (s.writeChains l cs).epoch = s.epoch := rfl
@[simp] theorem State.writeChains_resetLow (s : State) (l : LaneId) (cs : Chains) :
    (s.writeChains l cs).resetLow = s.resetLow := rfl
@[simp] theorem State.writeChains_refs (s : State) (l : LaneId) (cs : Chains) :
    (s.writeChains l cs).refs = s.refs := rfl
@[simp] theorem State.writeChains_realigns (s : State) (l : LaneId) (cs : Chains) :
    (s.writeChains l cs).realigns = s.realigns := rfl
@[simp] theorem State.writeChains_trackers (s : State) (l : LaneId) (cs : Chains) :
    (s.writeChains l cs).trackers = s.trackers := rfl
@[simp] theorem State.writeChains_lanes (s : State) (l : LaneId) (cs : Chains) :
    (s.writeChains l cs).lanes = s.lanes := rfl
@[simp] theorem State.writeChains_checkpoints (s : State) (l : LaneId) (cs : Chains) :
    (s.writeChains l cs).checkpoints = s.checkpoints := rfl
@[simp] theorem State.writeChains_engine (s : State) (l : LaneId) (cs : Chains) :
    (s.writeChains l cs).engine = s.engine := rfl
@[simp] theorem State.writeChains_ports (s : State) (l : LaneId) (cs : Chains) :
    (s.writeChains l cs).ports = s.ports := rfl
@[simp] theorem State.writeChains_due (s : State) (l : LaneId) (cs : Chains) :
    (s.writeChains l cs).due = s.due := rfl
@[simp] theorem State.writeChains_pending (s : State) (l : LaneId) (cs : Chains) :
    (s.writeChains l cs).pending = s.pending := rfl
@[simp] theorem State.writeChains_scrubAbandoned (s : State) (l : LaneId) (cs : Chains) :
    (s.writeChains l cs).scrubAbandoned = s.scrubAbandoned := rfl

/-! ## Reading a record after an update -/

theorem portIndex_inj {p q : Port} : portIndex p = portIndex q ↔ p = q := by
  cases p <;> cases q <;> decide

theorem State.ref_setRef (s : State) (r q : RefId) (x : Reference) :
    (s.setRef r x).ref q = if q = r then x else s.ref q := by
  simp [State.ref, State.setRef, Vector.getElem_set, Fin.ext_iff, eq_comm]

theorem State.realign_setRealign (s : State) (r q : RefId) (x : Realign) :
    (s.setRealign r x).realign q = if q = r then x else s.realign q := by
  simp [State.realign, State.setRealign, Vector.getElem_set, Fin.ext_iff, eq_comm]

theorem State.tracker_setTracker (s : State) (r q : RefId) (x : Tracker) :
    (s.setTracker r x).tracker q = if q = r then x else s.tracker q := by
  simp [State.tracker, State.setTracker, Vector.getElem_set, Fin.ext_iff, eq_comm]

theorem State.lane_setLane (s : State) (l k : LaneId) (x : Lane) :
    (s.setLane l x).lane k = if k = l then x else s.lane k := by
  simp [State.lane, State.setLane, Vector.getElem_set, Fin.ext_iff, eq_comm]

theorem State.port_setPort (s : State) (p q : Port) (x : PortState) :
    (s.setPort p x).port q = if q = p then x else s.port q := by
  cases p <;> cases q <;> simp [State.port, State.setPort, portIndex]

@[simp] theorem State.ref_setRef_self (s : State) (r : RefId) (x : Reference) :
    (s.setRef r x).ref r = x := by simp [State.ref_setRef]
@[simp] theorem State.realign_setRealign_self (s : State) (r : RefId) (x : Realign) :
    (s.setRealign r x).realign r = x := by simp [State.realign_setRealign]
@[simp] theorem State.tracker_setTracker_self (s : State) (r : RefId) (x : Tracker) :
    (s.setTracker r x).tracker r = x := by simp [State.tracker_setTracker]
@[simp] theorem State.lane_setLane_self (s : State) (l : LaneId) (x : Lane) :
    (s.setLane l x).lane l = x := by simp [State.lane_setLane]
@[simp] theorem State.port_setPort_self (s : State) (p : Port) (x : PortState) :
    (s.setPort p x).port p = x := by simp [State.port_setPort]

@[simp] theorem State.setRef_realign (s : State) (q : RefId) (x : Reference) (r : RefId) :
    (s.setRef q x).realign r = s.realign r := by simp [State.realign]
@[simp] theorem State.setRef_tracker (s : State) (q : RefId) (x : Reference) (r : RefId) :
    (s.setRef q x).tracker r = s.tracker r := by simp [State.tracker]
@[simp] theorem State.setRef_lane (s : State) (q : RefId) (x : Reference) (l : LaneId) :
    (s.setRef q x).lane l = s.lane l := by simp [State.lane]
@[simp] theorem State.setRef_port (s : State) (q : RefId) (x : Reference) (p : Port) :
    (s.setRef q x).port p = s.port p := by simp [State.port]

@[simp] theorem State.setRealign_ref (s : State) (q : RefId) (x : Realign) (r : RefId) :
    (s.setRealign q x).ref r = s.ref r := by simp [State.ref]
@[simp] theorem State.setRealign_tracker (s : State) (q : RefId) (x : Realign) (r : RefId) :
    (s.setRealign q x).tracker r = s.tracker r := by simp [State.tracker]
@[simp] theorem State.setRealign_lane (s : State) (q : RefId) (x : Realign) (l : LaneId) :
    (s.setRealign q x).lane l = s.lane l := by simp [State.lane]
@[simp] theorem State.setRealign_port (s : State) (q : RefId) (x : Realign) (p : Port) :
    (s.setRealign q x).port p = s.port p := by simp [State.port]

@[simp] theorem State.setTracker_ref (s : State) (q : RefId) (x : Tracker) (r : RefId) :
    (s.setTracker q x).ref r = s.ref r := by simp [State.ref]
@[simp] theorem State.setTracker_realign (s : State) (q : RefId) (x : Tracker) (r : RefId) :
    (s.setTracker q x).realign r = s.realign r := by simp [State.realign]
@[simp] theorem State.setTracker_lane (s : State) (q : RefId) (x : Tracker) (l : LaneId) :
    (s.setTracker q x).lane l = s.lane l := by simp [State.lane]
@[simp] theorem State.setTracker_port (s : State) (q : RefId) (x : Tracker) (p : Port) :
    (s.setTracker q x).port p = s.port p := by simp [State.port]

@[simp] theorem State.setLane_ref (s : State) (q : LaneId) (x : Lane) (r : RefId) :
    (s.setLane q x).ref r = s.ref r := by simp [State.ref]
@[simp] theorem State.setLane_realign (s : State) (q : LaneId) (x : Lane) (r : RefId) :
    (s.setLane q x).realign r = s.realign r := by simp [State.realign]
@[simp] theorem State.setLane_tracker (s : State) (q : LaneId) (x : Lane) (r : RefId) :
    (s.setLane q x).tracker r = s.tracker r := by simp [State.tracker]
@[simp] theorem State.setLane_port (s : State) (q : LaneId) (x : Lane) (p : Port) :
    (s.setLane q x).port p = s.port p := by simp [State.port]

@[simp] theorem State.setPort_ref (s : State) (q : Port) (x : PortState) (r : RefId) :
    (s.setPort q x).ref r = s.ref r := by simp [State.ref]
@[simp] theorem State.setPort_realign (s : State) (q : Port) (x : PortState) (r : RefId) :
    (s.setPort q x).realign r = s.realign r := by simp [State.realign]
@[simp] theorem State.setPort_tracker (s : State) (q : Port) (x : PortState) (r : RefId) :
    (s.setPort q x).tracker r = s.tracker r := by simp [State.tracker]
@[simp] theorem State.setPort_lane (s : State) (q : Port) (x : PortState) (l : LaneId) :
    (s.setPort q x).lane l = s.lane l := by simp [State.lane]

@[simp] theorem State.setDecoder_ref (s : State) (q : Port) (d : Decoder) (r : RefId) :
    (s.setDecoder q d).ref r = s.ref r := by simp [State.ref]
@[simp] theorem State.setDecoder_realign (s : State) (q : Port) (d : Decoder) (r : RefId) :
    (s.setDecoder q d).realign r = s.realign r := by simp [State.realign]
@[simp] theorem State.setDecoder_tracker (s : State) (q : Port) (d : Decoder) (r : RefId) :
    (s.setDecoder q d).tracker r = s.tracker r := by simp [State.tracker]
@[simp] theorem State.setDecoder_lane (s : State) (q : Port) (d : Decoder) (l : LaneId) :
    (s.setDecoder q d).lane l = s.lane l := by simp [State.lane]

@[simp] theorem State.respond_ref (s : State) (q : Port) (c : Byte) (st : Status) (ws : List Word) (r : RefId) :
    (s.respond q c st ws).ref r = s.ref r := by simp [State.ref]
@[simp] theorem State.respond_realign (s : State) (q : Port) (c : Byte) (st : Status) (ws : List Word) (r : RefId) :
    (s.respond q c st ws).realign r = s.realign r := by simp [State.realign]
@[simp] theorem State.respond_tracker (s : State) (q : Port) (c : Byte) (st : Status) (ws : List Word) (r : RefId) :
    (s.respond q c st ws).tracker r = s.tracker r := by simp [State.tracker]
@[simp] theorem State.respond_lane (s : State) (q : Port) (c : Byte) (st : Status) (ws : List Word) (l : LaneId) :
    (s.respond q c st ws).lane l = s.lane l := by simp [State.lane]

@[simp] theorem State.setNotices_ref (s : State) (q : Port) (n : Notices) (r : RefId) :
    (s.setNotices q n).ref r = s.ref r := by simp [State.ref]
@[simp] theorem State.setNotices_realign (s : State) (q : Port) (n : Notices) (r : RefId) :
    (s.setNotices q n).realign r = s.realign r := by simp [State.realign]
@[simp] theorem State.setNotices_tracker (s : State) (q : Port) (n : Notices) (r : RefId) :
    (s.setNotices q n).tracker r = s.tracker r := by simp [State.tracker]
@[simp] theorem State.setNotices_lane (s : State) (q : Port) (n : Notices) (l : LaneId) :
    (s.setNotices q n).lane l = s.lane l := by simp [State.lane]

@[simp] theorem State.raise_ref (s : State) (k : NoticeKind) (n : Nat) (r : RefId) :
    (s.raise k n).ref r = s.ref r := by simp [State.ref]
@[simp] theorem State.raise_realign (s : State) (k : NoticeKind) (n : Nat) (r : RefId) :
    (s.raise k n).realign r = s.realign r := by simp [State.realign]
@[simp] theorem State.raise_tracker (s : State) (k : NoticeKind) (n : Nat) (r : RefId) :
    (s.raise k n).tracker r = s.tracker r := by simp [State.tracker]
@[simp] theorem State.raise_lane (s : State) (k : NoticeKind) (n : Nat) (l : LaneId) :
    (s.raise k n).lane l = s.lane l := by simp [State.lane]

@[simp] theorem State.raiseLane_ref (s : State) (k : NoticeKind) (q : LaneId) (r : RefId) :
    (s.raiseLane k q).ref r = s.ref r := by simp [State.ref]
@[simp] theorem State.raiseLane_realign (s : State) (k : NoticeKind) (q : LaneId) (r : RefId) :
    (s.raiseLane k q).realign r = s.realign r := by simp [State.realign]
@[simp] theorem State.raiseLane_tracker (s : State) (k : NoticeKind) (q : LaneId) (r : RefId) :
    (s.raiseLane k q).tracker r = s.tracker r := by simp [State.tracker]
@[simp] theorem State.raiseLane_lane (s : State) (k : NoticeKind) (q : LaneId) (l : LaneId) :
    (s.raiseLane k q).lane l = s.lane l := by simp [State.lane]

@[simp] theorem State.raiseRef_ref (s : State) (k : NoticeKind) (q : RefId) (r : RefId) :
    (s.raiseRef k q).ref r = s.ref r := by simp [State.ref]
@[simp] theorem State.raiseRef_realign (s : State) (k : NoticeKind) (q : RefId) (r : RefId) :
    (s.raiseRef k q).realign r = s.realign r := by simp [State.realign]
@[simp] theorem State.raiseRef_tracker (s : State) (k : NoticeKind) (q : RefId) (r : RefId) :
    (s.raiseRef k q).tracker r = s.tracker r := by simp [State.tracker]
@[simp] theorem State.raiseRef_lane (s : State) (k : NoticeKind) (q : RefId) (l : LaneId) :
    (s.raiseRef k q).lane l = s.lane l := by simp [State.lane]

@[simp] theorem State.endPulses_ref (s : State)  (r : RefId) :
    (s.endPulses).ref r = s.ref r := by simp [State.ref]
@[simp] theorem State.endPulses_realign (s : State)  (r : RefId) :
    (s.endPulses).realign r = s.realign r := by simp [State.realign]
@[simp] theorem State.endPulses_tracker (s : State)  (r : RefId) :
    (s.endPulses).tracker r = s.tracker r := by simp [State.tracker]
@[simp] theorem State.endPulses_lane (s : State)  (l : LaneId) :
    (s.endPulses).lane l = s.lane l := by simp [State.lane]

@[simp] theorem State.request_ref (s : State) (q : LaneId) (k : MaintKind) (r : RefId) :
    (s.request q k).ref r = s.ref r := by simp [State.ref]
@[simp] theorem State.request_realign (s : State) (q : LaneId) (k : MaintKind) (r : RefId) :
    (s.request q k).realign r = s.realign r := by simp [State.realign]
@[simp] theorem State.request_tracker (s : State) (q : LaneId) (k : MaintKind) (r : RefId) :
    (s.request q k).tracker r = s.tracker r := by simp [State.tracker]
@[simp] theorem State.request_lane (s : State) (q : LaneId) (k : MaintKind) (l : LaneId) :
    (s.request q k).lane l = s.lane l := by simp [State.lane]
@[simp] theorem State.request_port (s : State) (q : LaneId) (k : MaintKind) (p : Port) :
    (s.request q k).port p = s.port p := by simp [State.port]

@[simp] theorem State.removeEntries_ref (s : State) (f : MaintEntry → Bool) (r : RefId) :
    (s.removeEntries f).ref r = s.ref r := by simp [State.ref]
@[simp] theorem State.removeEntries_realign (s : State) (f : MaintEntry → Bool) (r : RefId) :
    (s.removeEntries f).realign r = s.realign r := by simp [State.realign]
@[simp] theorem State.removeEntries_tracker (s : State) (f : MaintEntry → Bool) (r : RefId) :
    (s.removeEntries f).tracker r = s.tracker r := by simp [State.tracker]
@[simp] theorem State.removeEntries_lane (s : State) (f : MaintEntry → Bool) (l : LaneId) :
    (s.removeEntries f).lane l = s.lane l := by simp [State.lane]
@[simp] theorem State.removeEntries_port (s : State) (f : MaintEntry → Bool) (p : Port) :
    (s.removeEntries f).port p = s.port p := by simp [State.port]

@[simp] theorem State.engineIdle_ref (s : State)  (r : RefId) :
    (s.engineIdle).ref r = s.ref r := by simp [State.ref]
@[simp] theorem State.engineIdle_realign (s : State)  (r : RefId) :
    (s.engineIdle).realign r = s.realign r := by simp [State.realign]
@[simp] theorem State.engineIdle_tracker (s : State)  (r : RefId) :
    (s.engineIdle).tracker r = s.tracker r := by simp [State.tracker]
@[simp] theorem State.engineIdle_lane (s : State)  (l : LaneId) :
    (s.engineIdle).lane l = s.lane l := by simp [State.lane]
@[simp] theorem State.engineIdle_port (s : State)  (p : Port) :
    (s.engineIdle).port p = s.port p := by simp [State.port]

@[simp] theorem State.raise_port (s : State) (k : NoticeKind) (n : Nat) (p : Port) :
    (s.raise k n).port p =
      { s.port p with notices := raiseOnPort { kind := k, source := n } (s.port p).notices } := by
  simp [State.port, State.raise]

/-- What a raise does to one port's notice state, said once (R159, R160). -/
theorem raiseOnPort_eq (x : Notice) (n : Notices) :
    raiseOnPort x n =
      if kindEnabled n x.kind = true ∧ x ∉ n.pending then
        { n with
          pending := insertNotice x n.pending
          line := match n.mode with
            | .level => levelLine n.armed (insertNotice x n.pending)
            | .pulse => if n.armed then .pulsed else n.line
          pulses := if n.mode = .pulse ∧ n.armed = true ∧ n.line ≠ .pulsed then n.pulses + 1
            else n.pulses }
      else n := by
  rcases n with ⟨en, pend, armed, mode, line, pulses⟩
  simp only [raiseOnPort, enterPending, drivePulse, Bool.and_eq_true, Bool.not_eq_true',
    List.contains_eq_mem, decide_eq_false_iff_not]
  split
  · cases mode <;> cases armed <;> cases line <;> simp
  · rfl

@[simp] theorem State.endPulses_port (s : State) (p : Port) :
    s.endPulses.port p =
      { s.port p with notices := { (s.port p).notices with line :=
          if (s.port p).notices.line = .pulsed then .released else (s.port p).notices.line } } := by
  simp only [State.port, State.endPulses, Fin.getElem_fin, Vector.getElem_ofFn]; rfl

theorem State.setDecoder_port (s : State) (p q : Port) (d : Decoder) :
    (s.setDecoder p d).port q = if q = p then { s.port p with decoder := d } else s.port q := by
  simp [State.setDecoder, State.port_setPort]

@[simp] theorem State.setDecoder_decoder (s : State) (p : Port) (d : Decoder) :
    ((s.setDecoder p d).port p).decoder = d := by simp [State.setDecoder_port]

@[simp] theorem State.setDecoder_notices (s : State) (p q : Port) (d : Decoder) :
    ((s.setDecoder p d).port q).notices = (s.port q).notices := by
  rw [State.setDecoder_port]; split <;> simp_all

theorem State.respond_port (s : State) (p q : Port) (c : Byte) (st : Status) (ws : List Word) :
    (s.respond p c st ws).port q =
      if q = p then
        { s.port p with decoder := .responding (turnaround :: responseWords st c ws) }
      else s.port q := by
  simp [State.respond, State.setDecoder_port]

@[simp] theorem State.respond_decoder (s : State) (p : Port) (c : Byte) (st : Status)
    (ws : List Word) :
    ((s.respond p c st ws).port p).decoder = .responding (turnaround :: responseWords st c ws) := by
  simp [State.respond_port]

@[simp] theorem State.respond_notices (s : State) (p q : Port) (c : Byte) (st : Status)
    (ws : List Word) : ((s.respond p c st ws).port q).notices = (s.port q).notices := by
  simp [State.respond]

/-! ## Replacing a record by itself, and twice -/

@[simp] theorem State.setRef_ref_self (s : State) (r : RefId) : s.setRef r (s.ref r) = s := by
  simp [State.setRef, State.ref]
@[simp] theorem State.setRealign_realign_self (s : State) (r : RefId) :
    s.setRealign r (s.realign r) = s := by simp [State.setRealign, State.realign]
@[simp] theorem State.setTracker_tracker_self (s : State) (r : RefId) :
    s.setTracker r (s.tracker r) = s := by simp [State.setTracker, State.tracker]
@[simp] theorem State.setLane_lane_self (s : State) (l : LaneId) : s.setLane l (s.lane l) = s := by
  simp [State.setLane, State.lane]
@[simp] theorem State.setPort_port_self (s : State) (p : Port) : s.setPort p (s.port p) = s := by
  simp [State.setPort, State.port]

@[simp] theorem State.setRef_setRef (s : State) (r : RefId) (x y : Reference) :
    (s.setRef r x).setRef r y = s.setRef r y := by simp [State.setRef]
@[simp] theorem State.setRealign_setRealign (s : State) (r : RefId) (x y : Realign) :
    (s.setRealign r x).setRealign r y = s.setRealign r y := by simp [State.setRealign]
@[simp] theorem State.setTracker_setTracker (s : State) (r : RefId) (x y : Tracker) :
    (s.setTracker r x).setTracker r y = s.setTracker r y := by simp [State.setTracker]
@[simp] theorem State.setLane_setLane (s : State) (l : LaneId) (x y : Lane) :
    (s.setLane l x).setLane l y = s.setLane l y := by simp [State.setLane]
@[simp] theorem State.setPort_setPort (s : State) (p : Port) (x y : PortState) :
    (s.setPort p x).setPort p y = s.setPort p y := by simp [State.setPort]

/-! ## A record of every index -/

theorem State.refs_ext {s t : State} (h : ∀ r, s.ref r = t.ref r) : s.refs = t.refs :=
  Vector.ext fun i hi => h ⟨i, hi⟩
theorem State.realigns_ext {s t : State} (h : ∀ r, s.realign r = t.realign r) :
    s.realigns = t.realigns := Vector.ext fun i hi => h ⟨i, hi⟩
theorem State.trackers_ext {s t : State} (h : ∀ r, s.tracker r = t.tracker r) :
    s.trackers = t.trackers := Vector.ext fun i hi => h ⟨i, hi⟩
theorem State.lanes_ext {s t : State} (h : ∀ l, s.lane l = t.lane l) : s.lanes = t.lanes :=
  Vector.ext fun i hi => h ⟨i, hi⟩

end Sys2Proof.Machine
end

