-- ==== Sys2Proof/Laws/Commands.lean ====
section
/-! SUPPORT. What taking a command on a port can do, said once, and what the operand forms give. -/

namespace Sys2Proof.Machine

/-! ## Clocking words -/

/-- In COMMAND the words clocked join those received. -/
theorem Decoder.clockAll_command (ws : List Word) :
    ∀ received, (Decoder.command received).clockAll ws = .command (received ++ ws) := by
  induction ws with
  | nil => intro r; simp [Decoder.clockAll]
  | cons w ws ih => intro r; simp [Decoder.clockAll, Decoder.clock, ih]

/-- In DRAINING the words clocked are ignored. -/
theorem Decoder.clockAll_draining (ws : List Word) : Decoder.draining.clockAll ws = .draining := by
  induction ws with
  | nil => rfl
  | cons w ws ih => simpa [Decoder.clockAll, Decoder.clock] using ih

/-- In RESPONDING as many words leave as are clocked; after the last the decoder is in DRAINING. -/
theorem Decoder.clockAll_responding (ws : List Word) :
    ∀ unsent : List Word, unsent ≠ [] → (Decoder.responding unsent).clockAll ws =
      if unsent.length ≤ ws.length then .draining else .responding (unsent.drop ws.length) := by
  induction ws with
  | nil => intro u hu; cases u <;> simp_all [Decoder.clockAll]
  | cons w ws ih =>
    intro u hu
    match u, hu with
    | [_], _ => simp [Decoder.clockAll, Decoder.clock, Decoder.clockAll_draining]
    | _ :: v :: rest, _ => simpa [Decoder.clockAll, Decoder.clock] using ih (v :: rest) (by simp)

/-- A decoder awaits a command exactly in COMMAND, with a proper prefix of its words received. -/
theorem Decoder.awaits_iff (d : Decoder) (code : Byte) (m : Message) :
    d.awaits code m = true ↔ ∃ received, d = .command received
      ∧ received <+: commandWords code m ∧ received.length < (commandWords code m).length := by
  cases d <;> simp [Decoder.awaits]

/-- A transaction that has just started awaits every command. -/
theorem Decoder.awaits_start (code : Byte) (m : Message) :
    (Decoder.command []).awaits code m = true := by
  simp [Decoder.awaits, commandWords]

/-! ## Taking a command -/

/-- A command that passes the port's checks is answered by its owner. -/
theorem takeCommand_taken {k : Kind} {p : Port} {m : Message} {s : State} (h : s.takes k p m)
    (owner : State → Reply) :
    takeCommand k p m s owner =
      .next ((owner s.beginEvent).after.respond p (kindCode k) (owner s.beginEvent).status
        (owner s.beginEvent).payload) := by
  obtain ⟨h1, h2, h3, h4⟩ := h
  simp [takeCommand, checkedReply, h1, h2, h3, h4]

/-- A term whose words are not complete is refused. -/
theorem takeCommand_illFormed {k : Kind} {p : Port} {m : Message} {s : State}
    (h : m.wellFormed = false) (owner : State → Reply) :
    takeCommand k p m s owner = .refused .illFormed := by
  simp [takeCommand, h]

/-- A port that does not await the command's last word ignores the words. -/
theorem takeCommand_ignored {k : Kind} {p : Port} {m : Message} {s : State}
    (h : m.wellFormed = true) (hd : (s.port p).decoder.awaits (kindCode k) m = false) (owner : State → Reply) :
    takeCommand k p m s owner = .next s := by
  simp [takeCommand, h, hd]

/-- A kind not open to the port is refused WRONG_PORT. -/
theorem takeCommand_wrongPort {k : Kind} {p : Port} {m : Message} {s : State}
    (h : m.wellFormed = true) (hd : (s.port p).decoder.awaits (kindCode k) m = true) (ho : openTo k p = false)
    (owner : State → Reply) :
    takeCommand k p m s owner = .next (s.beginEvent.respond p (kindCode k) .wrongPort []) := by
  simp [takeCommand, checkedReply, refuse, h, hd, ho]

/-- A length the kind does not accept is refused BAD_ARG. -/
theorem takeCommand_badLength {k : Kind} {p : Port} {m : Message} {s : State}
    (h : m.wellFormed = true) (hd : (s.port p).decoder.awaits (kindCode k) m = true) (ho : openTo k p = true)
    (hl : acceptsLength k m.declared.toNat = false) (owner : State → Reply) :
    takeCommand k p m s owner = .next (s.beginEvent.respond p (kindCode k) .badArg []) := by
  simp [takeCommand, checkedReply, refuse, h, hd, ho, hl]

/-- Everything taking a command can do. -/
theorem takeCommand_next {k : Kind} {p : Port} {m : Message} {s t : State} {owner : State → Reply}
    (h : takeCommand k p m s owner = .next t) :
    ((s.port p).decoder.awaits (kindCode k) m = false ∧ t = s)
      ∨ ((s.port p).decoder.awaits (kindCode k) m = true ∧ ∃ st : Status, (st = .wrongPort ∨ st = .badArg)
          ∧ t = s.beginEvent.respond p (kindCode k) st [])
      ∨ (s.takes k p m ∧ t = (owner s.beginEvent).after.respond p (kindCode k)
          (owner s.beginEvent).status (owner s.beginEvent).payload) := by
  cases hw : m.wellFormed
  · simp [takeCommand_illFormed hw] at h
  by_cases hd : (s.port p).decoder.awaits (kindCode k) m = true
  · cases ho : openTo k p
    · rw [takeCommand_wrongPort hw hd ho] at h
      exact .inr (.inl ⟨hd, .wrongPort, .inl rfl, by simpa using h.symm⟩)
    · cases hl : acceptsLength k m.declared.toNat
      · rw [takeCommand_badLength hw hd ho hl] at h
        exact .inr (.inl ⟨hd, .badArg, .inr rfl, by simpa using h.symm⟩)
      · have hk : s.takes k p m := ⟨hw, hd, ho, hl⟩
        rw [takeCommand_taken hk] at h
        exact .inr (.inr ⟨hk, by simpa using h.symm⟩)
  · have hd := Bool.eq_false_iff.mpr hd
    rw [takeCommand_ignored hw hd] at h
    exact .inl ⟨hd, by simpa using h.symm⟩

/-! ## Targets -/

@[simp] theorem refuse_after (st : Status) (s : State) : (refuse st s).after = s := rfl
@[simp] theorem refuse_status (st : Status) (s : State) : (refuse st s).status = st := rfl
@[simp] theorem refuse_payload (st : Status) (s : State) : (refuse st s).payload = [] := rfl
@[simp] theorem answer_after (ws : List Word) (s : State) : (answer ws s).after = s := rfl
@[simp] theorem answer_status (ws : List Word) (s : State) : (answer ws s).status = .ok := rfl
@[simp] theorem answer_payload (ws : List Word) (s : State) : (answer ws s).payload = ws := rfl
@[simp] theorem configured_after (c : Bool) (ws : List Word) (s : State) :
    (configured c ws s).after = s := rfl
@[simp] theorem configured_status (c : Bool) (ws : List Word) (s : State) :
    (configured c ws s).status = if c then .clamped else .ok := rfl
@[simp] theorem configured_payload (c : Bool) (ws : List Word) (s : State) :
    (configured c ws s).payload = ws := rfl

theorem laneTarget_names {m : Message} {l : LaneId} (h : m.names l) : laneTarget m = some l := by
  have h' : m.target.toNat = l.val := h
  have := l.isLt
  simp [laneTarget, h']

theorem laneTarget_none {m : Message} (h : 16 ≤ m.target.toNat) : laneTarget m = none := by
  simp [laneTarget, h]

theorem refTarget_names {m : Message} {r : RefId} (h : m.namesRef r) : refTarget m = some r := by
  have h' : m.target.toNat = r.val := h
  simp [refTarget, h']

theorem refTarget_none {m : Message} (h : 3 ≤ m.target.toNat) : refTarget m = none := by
  simp [refTarget, h]

theorem onLane_names {m : Message} {l : LaneId} (h : m.names l) (s : State) (f : LaneId → Reply) :
    onLane m s f = f l := by simp [onLane, laneTarget_names h]

theorem onLane_none {m : Message} (h : 16 ≤ m.target.toNat) (s : State) (f : LaneId → Reply) :
    onLane m s f = refuse .badArg s := by simp [onLane, laneTarget_none h]

theorem onBoundLane_names {m : Message} {l : LaneId} (h : m.names l) (s : State)
    (f : LaneId → Reply) :
    onBoundLane m s f = if (s.lane l).state = .unbound then refuse .wrongState s else f l := by
  simp [onBoundLane, onLane_names h]

theorem onBoundLane_none {m : Message} (h : 16 ≤ m.target.toNat) (s : State)
    (f : LaneId → Reply) : onBoundLane m s f = refuse .badArg s := by
  simp [onBoundLane, onLane_none h]

theorem onRef_names {m : Message} {r : RefId} (h : m.namesRef r) (s : State) (f : RefId → Reply) :
    onRef m s f = f r := by simp [onRef, refTarget_names h]

theorem onRef_none {m : Message} (h : 3 ≤ m.target.toNat) (s : State) (f : RefId → Reply) :
    onRef m s f = refuse .badArg s := by simp [onRef, refTarget_none h]

theorem onZero_eq (m : Message) (s : State) (a : Reply) :
    onZero m s a = if m.target = 0 then a else refuse .badArg s := rfl

/-! ## Operands -/

theorem flagArg_none {m : Message} {n : Nat} (h : 2 ≤ argNat m n) : flagArg m n = none := by
  rw [flagArg, if_neg (by omega), if_neg (by omega)]

theorem flagArg_zero {m : Message} {n : Nat} (h : argNat m n = 0) : flagArg m n = some false := by
  simp [flagArg, h]

theorem flagArg_one {m : Message} {n : Nat} (h : argNat m n = 1) : flagArg m n = some true := by
  simp [flagArg, h]

theorem flagArg_le {m : Message} {n : Nat} (h : argNat m n ≤ 1) :
    flagArg m n = some (decide (argNat m n = 1)) := by
  obtain h | h : argNat m n = 0 ∨ argNat m n = 1 := by omega
  · rw [flagArg_zero h, h]; rfl
  · rw [flagArg_one h, h]; rfl

theorem laneArg_val {m : Message} {n : Nat} {l : LaneId} (h : argNat m n = l.val) :
    laneArg m n = some l := by simp [laneArg, h]

theorem laneArg_none {m : Message} {n : Nat} (h : 16 ≤ argNat m n) : laneArg m n = none := by
  simp [laneArg, h]

theorem refArg_val {m : Message} {n : Nat} {r : RefId} (h : argNat m n = r.val) :
    refArg m n = some r := by simp [refArg, h]

theorem refArg_none {m : Message} {n : Nat} (h : 3 ≤ argNat m n) : refArg m n = none := by
  simp [refArg, h]

theorem tuned_eq (m : Message) (n lo hi : Nat) :
    tuned m n lo hi = (max (lo : Int) (min (hi : Int) (argWord m n).toInt)).toNat := rfl

/-- A tuning value is not clamped exactly when it lies in its range. -/
theorem clamped_eq (m : Message) (n lo hi : Nat) (h : lo ≤ hi) :
    clamped m n lo hi = !decide ((lo : Int) ≤ (argWord m n).toInt ∧ (argWord m n).toInt ≤ hi) := by
  simp only [clamped, tuned_eq, argInt, ← decide_not]
  congr 1
  apply propext
  omega

theorem wordOf_argNat (m : Message) (n : Nat) : wordOf (argNat m n) = argWord m n := by
  simp [wordOf, argNat]

end Sys2Proof.Machine
end

