-- ==== Sys2Proof/Laws/Frames.lean ====
section
/-! SUPPORT. What the part's internal operations leave alone, said once for each: `Keeps` holds of every
operation but a port event and a reset, and `Steady` of every one that writes no coefficient and sets no
lock flag. -/

namespace Sys2Proof.Machine

/-- From `s` to `t` the epoch, the level of RESET_N, the waiting commands, the
decoders and port counters, the partition map and the scrubber stay. -/
structure Keeps (s t : State) : Prop where
  epoch    : t.epoch = s.epoch
  resetLow : t.resetLow = s.resetLow
  pending  : t.pending = s.pending
  port     : ∀ p, (t.port p).decoder = (s.port p).decoder
    ∧ (t.port p).truncated = (s.port p).truncated ∧ (t.port p).unknown = (s.port p).unknown
  map      : t.store.map = s.store.map
  scrub    : t.store.scrub = s.store.scrub

/-- From `s` to `t` moreover no coefficient changes and no lock flag is set. -/
structure Steady (s t : State) : Prop extends Keeps s t where
  coefs    : t.store.coefs = s.store.coefs
  lock     : ∀ l, (t.lane l).lock = true → (s.lane l).lock = true

theorem Keeps.refl (s : State) : Keeps s s :=
  ⟨rfl, rfl, rfl, fun _ => ⟨rfl, rfl, rfl⟩, rfl, rfl⟩

theorem Keeps.trans {s t u : State} (a : Keeps s t) (b : Keeps t u) : Keeps s u :=
  ⟨b.epoch.trans a.epoch, b.resetLow.trans a.resetLow, b.pending.trans a.pending,
    fun p => ⟨(b.port p).1.trans (a.port p).1, (b.port p).2.1.trans (a.port p).2.1,
      (b.port p).2.2.trans (a.port p).2.2⟩, b.map.trans a.map, b.scrub.trans a.scrub⟩

theorem Steady.refl (s : State) : Steady s s := ⟨Keeps.refl s, rfl, fun _ h => h⟩

theorem Steady.trans {s t u : State} (a : Steady s t) (b : Steady t u) : Steady s u :=
  ⟨a.toKeeps.trans b.toKeeps, b.coefs.trans a.coefs, fun l h => a.lock l (b.lock l h)⟩

/-! ## The records, the notices, the engine's record

Each lemma extends what is known from `s` to `t` by one more operation on `t`. -/

section
variable {s t : State}

theorem Keeps.setLane (h : Keeps s t) (l : LaneId) (x : Lane) : Keeps s (t.setLane l x) :=
  h.trans ⟨rfl, rfl, rfl, fun _ => ⟨rfl, rfl, rfl⟩, rfl, rfl⟩

theorem Keeps.withStore (h : Keeps s t) (st : Store) (hm : st.map = t.store.map)
    (hs : st.scrub = t.store.scrub) : Keeps s { t with store := st } :=
  h.trans ⟨rfl, rfl, rfl, fun _ => ⟨rfl, rfl, rfl⟩, hm, hs⟩

theorem Steady.setRef (h : Steady s t) (r : RefId) (x : Reference) : Steady s (t.setRef r x) :=
  h.trans ⟨⟨rfl, rfl, rfl, fun _ => ⟨rfl, rfl, rfl⟩, rfl, rfl⟩, rfl, fun _ h => h⟩

theorem Steady.setRealign (h : Steady s t) (r : RefId) (x : Realign) : Steady s (t.setRealign r x) :=
  h.trans ⟨⟨rfl, rfl, rfl, fun _ => ⟨rfl, rfl, rfl⟩, rfl, rfl⟩, rfl, fun _ h => h⟩

theorem Steady.setTracker (h : Steady s t) (r : RefId) (x : Tracker) : Steady s (t.setTracker r x) :=
  h.trans ⟨⟨rfl, rfl, rfl, fun _ => ⟨rfl, rfl, rfl⟩, rfl, rfl⟩, rfl, fun _ h => h⟩

theorem Steady.setLane (h : Steady s t) (l : LaneId) (x : Lane)
    (hx : x.lock = true → (t.lane l).lock = true) : Steady s (t.setLane l x) := by
  refine h.trans ⟨(Keeps.refl t).setLane l x, rfl, fun k hk => ?_⟩
  rw [State.lane_setLane] at hk
  split at hk
  · rename_i e; rw [e]; exact hx hk
  · exact hk

theorem Steady.raise (h : Steady s t) (k : NoticeKind) (n : Nat) : Steady s (t.raise k n) :=
  h.trans ⟨⟨rfl, rfl, rfl, fun p => by simp, rfl, rfl⟩, rfl, fun _ h => h⟩

theorem Steady.raiseLane (h : Steady s t) (k : NoticeKind) (l : LaneId) : Steady s (t.raiseLane k l) :=
  h.raise k l.val

theorem Steady.raiseRef (h : Steady s t) (k : NoticeKind) (r : RefId) : Steady s (t.raiseRef k r) :=
  h.raise k r.val

theorem Steady.endPulses (h : Steady s t) : Steady s t.endPulses :=
  h.trans ⟨⟨rfl, rfl, rfl, fun p => by simp, rfl, rfl⟩, rfl, fun _ h => h⟩

theorem Steady.setNotices (h : Steady s t) (p : Port) (n : Notices) : Steady s (t.setNotices p n) := by
  refine h.trans ⟨⟨rfl, rfl, rfl, fun q => ?_, rfl, rfl⟩, rfl, fun _ h => h⟩
  simp only [State.setNotices, State.port_setPort]
  split <;> simp_all

theorem Steady.withEngine (h : Steady s t) (e : Engine) : Steady s { t with engine := e } :=
  h.trans ⟨⟨rfl, rfl, rfl, fun _ => ⟨rfl, rfl, rfl⟩, rfl, rfl⟩, rfl, fun _ h => h⟩

theorem Steady.withCheckpoints (h : Steady s t) (c : CheckpointStore) :
    Steady s { t with checkpoints := c } :=
  h.trans ⟨⟨rfl, rfl, rfl, fun _ => ⟨rfl, rfl, rfl⟩, rfl, rfl⟩, rfl, fun _ h => h⟩

theorem Steady.withDue (h : Steady s t) (d : List EpochAction) (b : Bool) :
    Steady s { t with due := d, scrubAbandoned := b } :=
  h.trans ⟨⟨rfl, rfl, rfl, fun _ => ⟨rfl, rfl, rfl⟩, rfl, rfl⟩, rfl, fun _ h => h⟩

theorem Steady.request (h : Steady s t) (l : LaneId) (k : MaintKind) : Steady s (t.request l k) := by
  simp only [State.request]
  split
  · exact h
  · exact h.withEngine _

theorem Steady.removeEntries (h : Steady s t) (f : MaintEntry → Bool) : Steady s (t.removeEntries f) :=
  h.withEngine _

theorem Steady.engineIdle (h : Steady s t) : Steady s t.engineIdle := h.withEngine _

theorem Steady.countPass (h : Steady s t) : Steady s t.countPass := h.withEngine _

/-! ## Realign Control and the trackers -/

theorem Steady.requestShifts (r : RefId) (d : Nat) (ls : List LaneId) :
    ∀ {t : State}, Steady s t → Steady s (t.requestShifts r d ls) := by
  induction ls with
  | nil => exact fun h => h
  | cons l ls ih => exact fun h => ih (h.request _ _)

theorem Steady.setTarget (h : Steady s t) (r : RefId) (d : Nat) : Steady s (t.setTarget r d).1 := by
  simp only [State.setTarget]
  split
  · exact (h.setRealign r _).raiseRef _ _
  · exact Steady.requestShifts r d _ (h.setRealign r _)

theorem Steady.commitIdle (h : Steady s t) (r : RefId) (d : Nat) (o : Origin) :
    Steady s (t.commitIdle r d o).1 := by
  simp only [State.commitIdle]
  split
  · exact h
  · split
    · exact (h.setRealign r _).raiseRef _ _
    · exact h.setTarget r d

theorem Steady.commit (h : Steady s t) (r : RefId) (d : Nat) (o : Origin) :
    Steady s (t.commit r d o).1 := by
  simp only [State.commit]
  split
  · exact h.setRealign r _
  · exact h.commitIdle r d o

theorem Steady.endRealign (h : Steady s t) (r : RefId) : Steady s (t.endRealign r) := by
  simp only [State.endRealign]
  split
  · exact ((h.setRealign r _).raiseRef _ _).commitIdle _ _ _
  · exact (h.setRealign r _).raiseRef _ _

theorem Steady.endRealignIfDone (h : Steady s t) (r : RefId) : Steady s (t.endRealignIfDone r) := by
  simp only [State.endRealignIfDone]
  split
  · exact h.endRealign r
  · exact h

theorem Steady.endRealigns (rs : List RefId) :
    ∀ {t : State}, Steady s t → Steady s (t.endRealigns rs) := by
  induction rs with
  | nil => exact fun h => h
  | cons r rs ih => exact fun h => ih (h.endRealignIfDone r)

theorem Steady.propose (h : Steady s t) (r : RefId) : Steady s (t.propose r) := by
  simp only [State.propose]
  split
  · split
    · exact h.commit _ _ _
    · exact h
  · exact h

theorem Steady.trackMicrophone (h : Steady s t) (r : RefId) (f : Epoch) (x : Frame) :
    Steady s (t.trackMicrophone r f x) := by
  simp only [State.trackMicrophone]
  split
  · split
    · exact h
    · split
      · exact (h.setTracker r _).propose r
      · exact h.setTracker r _
      · exact h
  · exact h

theorem Steady.handToTrackers (l : LaneId) (f : InFrame) (rs : List RefId) :
    ∀ {t : State}, Steady s t → Steady s (t.handToTrackers l f rs) := by
  induction rs with
  | nil => exact fun h => h
  | cons r rs ih =>
    intro t h
    simp only [State.handToTrackers]
    apply ih
    split
    · exact h.trackMicrophone r _ _
    · exact h

/-! ## The Reference History -/

theorem Steady.acceptReference (h : Steady s t) (r : RefId) (e : Epoch) (f : Frame) :
    Steady s (t.acceptReference r e f) := by
  simp only [State.acceptReference]
  apply Steady.setTracker
  split
  · exact (h.setRef r _).raiseRef _ _
  · exact h.setRef r _

theorem Steady.gap (h : Steady s t) (r : RefId) (p : Epoch) : Steady s (t.gap r p) := by
  simp only [State.gap]
  split
  · exact ((h.setRef r _).setTracker r _).raiseRef _ _
  · exact (h.setRef r _).setTracker r _

theorem Steady.resolveOne (h : Steady s t) (r : RefId) (p : Epoch) : Steady s (t.resolveOne r p) := by
  simp only [State.resolveOne]
  split
  · exact h
  · exact h.gap r p

theorem Steady.resolveFrom (r : RefId) (n : Nat) :
    ∀ {t : State} (p : Epoch), Steady s t → Steady s (t.resolveFrom r n p) := by
  induction n with
  | zero => exact fun _ h => h
  | succ n ih => exact fun p h => ih _ (h.resolveOne r p)

theorem Steady.resolve (h : Steady s t) (r : RefId) : Steady s (t.resolve r) := by
  simp only [State.resolve]
  split
  · exact h
  · exact h
  · split
    · exact h
    · exact (Steady.resolveFrom r _ _ h).setRef r _

/-! ## The lanes -/

theorem Steady.insertOutput (h : Steady s t) (l : LaneId) (f : OutFrame) :
    Steady s (t.insertOutput l f) := by
  simp only [State.insertOutput]
  split
  · exact Steady.raiseLane (h.setLane l _ (by simp)) _ _
  · exact h.setLane l _ (by simp)

theorem Steady.passFrame (h : Steady s t) (l : LaneId) (f : InFrame) : Steady s (t.passFrame l f) := by
  rw [State.passFrame]
  exact Steady.handToTrackers l f _ (h.insertOutput l _)

theorem Steady.passFrames (l : LaneId) (fs : List InFrame) :
    ∀ {t : State}, Steady s t → Steady s (t.passFrames l fs) := by
  induction fs with
  | nil => exact fun h => h
  | cons f fs ih =>
    intro t h
    rw [State.passFrames]
    exact ih (h.passFrame l f)

theorem Steady.flush (h : Steady s t) (l : LaneId) : Steady s (t.flush l) := by
  simp only [State.flush]
  exact Steady.passFrames l _ (h.setLane l _ (by simp))

/-! ## What an advance brings about, and how an event begins -/

theorem Steady.act (h : Steady s t) (a : EpochAction) : Steady s (t.act a) := by
  cases a with
  | onsetAge r => exact h.setTracker r _
  | resolve r => exact h.resolve r
  | holdEnd r => exact h.setRealign r _
  | changeAge r =>
    simp only [State.act, State.doChangeAge]
    split
    · split
      · exact h.setRealign r _
      · exact h
    · exact h
  | expire l =>
    simp only [State.act, State.doExpire]
    split
    · exact h
    · exact Steady.raiseLane (h.setLane l _ (by simp)) _ _
  | acceptedAge l =>
    simp only [State.act, State.doAcceptedAge]
    split
    · split
      · exact h.setLane l _ (by simp)
      · exact h
    · exact h
  | retryEnd l =>
    simp only [State.act, State.doRetryEnd]
    exact h.setLane l _ (by simp)
  | saveAge l =>
    simp only [State.act, State.doSaveAge]
    split
    · split
      · exact h.setLane l _ (by simp)
      · exact h
    · exact h

theorem Steady.actAll (as : List EpochAction) :
    ∀ {t : State}, Steady s t → Steady s (t.actAll as) := by
  induction as with
  | nil => exact fun h => h
  | cons a as ih => exact fun h => ih (h.act a)

theorem Steady.takeAction (h : Steady s t) (a : EpochAction) : Steady s (t.takeAction a) := by
  simp only [State.takeAction]
  split
  · exact Steady.act (h.withDue _ _) a
  · exact h

theorem Steady.settleEpoch (h : Steady s t) : Steady s t.settleEpoch :=
  Steady.actAll _ (h.withDue [] _)

theorem Steady.startPass (h : Steady s t) (l : LaneId) : Steady s (t.startPass l) := by
  simp only [State.startPass]
  split
  · exact h
  · exact Steady.handToTrackers l _ _ (Steady.withEngine (h.setLane l _ (by simp)) _)

theorem Steady.startOldestPass (h : Steady s t) : Steady s t.startOldestPass := by
  simp only [State.startOldestPass]
  split
  · exact h
  · exact h.startPass _

theorem Steady.startMaintenance (h : Steady s t) : Steady s t.startMaintenance := by
  simp only [State.startMaintenance]
  split
  · exact h
  · exact h.withEngine _

theorem Steady.arbitrate (h : Steady s t) : Steady s t.arbitrate := by
  simp only [State.arbitrate]
  split
  · exact h
  · split
    · exact h.startOldestPass
    · exact h.startMaintenance

theorem Steady.beginStart (h : Steady s t) : Steady s t.beginStart := h.settleEpoch.endPulses

theorem Steady.beginScrub (h : Steady s t) : Steady s t.beginScrub :=
  (h.beginStart.arbitrate).endPulses

/-- What an event finds, against what the event before it left: of what `Steady` names only the scrubber
may have started. -/
structure Begun (s t : State) : Prop where
  epoch    : t.epoch = s.epoch
  resetLow : t.resetLow = s.resetLow
  pending  : t.pending = s.pending
  port     : ∀ p, (t.port p).decoder = (s.port p).decoder
    ∧ (t.port p).truncated = (s.port p).truncated ∧ (t.port p).unknown = (s.port p).unknown
  map      : t.store.map = s.store.map
  coefs    : t.store.coefs = s.store.coefs
  lock     : ∀ l, (t.lane l).lock = true → (s.lane l).lock = true

theorem Steady.begun (h : Steady s t) : Begun s t :=
  ⟨h.epoch, h.resetLow, h.pending, h.port, h.map, h.coefs, h.lock⟩

theorem Begun.trans {u : State} (a : Begun s t) (b : Begun t u) : Begun s u :=
  ⟨b.epoch.trans a.epoch, b.resetLow.trans a.resetLow, 
    b.pending.trans a.pending,
    fun p => ⟨(b.port p).1.trans (a.port p).1, (b.port p).2.1.trans (a.port p).2.1,
      (b.port p).2.2.trans (a.port p).2.2⟩, b.map.trans a.map, b.coefs.trans a.coefs,
    fun l h => a.lock l (b.lock l h)⟩

theorem begun_settleScrubber (s : State) : Begun s s.settleScrubber := by
  simp only [State.settleScrubber]
  split
  · exact (Steady.refl s).begun
  · exact ⟨rfl, rfl, rfl, fun _ => ⟨rfl, rfl, rfl⟩, rfl, rfl, fun _ h => h⟩

/-- What an event finds. -/
theorem begun_beginEvent (s : State) : Begun s s.beginEvent :=
  (Steady.refl s).beginScrub.begun.trans (begun_settleScrubber _)

/-! ## The lane commands' effects -/

theorem Steady.acceptMic (h : Steady s t) (l : LaneId) (f : InFrame) : Steady s (t.acceptMic l f) := by
  simp only [State.acceptMic]
  split
  · exact Steady.passFrame (h.setLane l _ (by simp [countAccepted])) l f
  · exact h.setLane l _ (by simp [countAccepted])

theorem Steady.enterBypass (h : Steady s t) (l : LaneId) : Steady s (t.enterBypass l) := by
  simp only [State.enterBypass]
  split
  · exact h.setLane l _ (by simp)
  · exact Steady.flush (h.setLane l _ (by simp)) l

theorem Steady.clearLane (h : Steady s t) (l : LaneId) : Steady s (t.clearLane l) := by
  simp only [State.clearLane]
  exact Steady.endRealigns _
    (Steady.request ((h.removeEntries _).setLane l _ (by simp [clearingLane])) _ _)

/-! ## The completions -/

@[simp] theorem Store.writePart_map (st : Store) (l : LaneId) (r : RefId) (j : Nat) (x : Partition) :
    (st.writePart l r j x).map = st.map := by
  simp only [Store.writePart]; split <;> rfl

@[simp] theorem Store.writePart_scrub (st : Store) (l : LaneId) (r : RefId) (j : Nat)
    (x : Partition) : (st.writePart l r j x).scrub = st.scrub := by
  simp only [Store.writePart]; split <;> rfl

@[simp] theorem Store.writeChain_map (l : LaneId) (r : RefId) (xs : List Partition) :
    ∀ (st : Store) (j : Nat), (st.writeChain l r j xs).map = st.map := by
  induction xs with
  | nil => exact fun _ _ => rfl
  | cons x xs ih => intro st j; simp [Store.writeChain, ih]

@[simp] theorem Store.writeChain_scrub (l : LaneId) (r : RefId) (xs : List Partition) :
    ∀ (st : Store) (j : Nat), (st.writeChain l r j xs).scrub = st.scrub := by
  induction xs with
  | nil => exact fun _ _ => rfl
  | cons x xs ih => intro st j; simp [Store.writeChain, ih]

@[simp] theorem Store.writeTap_map (st : Store) (l : LaneId) (r : RefId) (k : Nat) (c : Coef) :
    (st.writeTap l r k c).map = st.map := by simp [Store.writeTap]

@[simp] theorem Store.writeTap_scrub (st : Store) (l : LaneId) (r : RefId) (k : Nat) (c : Coef) :
    (st.writeTap l r k c).scrub = st.scrub := by simp [Store.writeTap]

@[simp] theorem Store.writeTaps_map (l : LaneId) (r : RefId) (vs : List Int) :
    ∀ (st : Store) (k : Nat), (st.writeTaps l r k vs).map = st.map := by
  induction vs with
  | nil => exact fun _ _ => rfl
  | cons v vs ih => intro st k; simp [Store.writeTaps, ih]

@[simp] theorem Store.writeTaps_scrub (l : LaneId) (r : RefId) (vs : List Int) :
    ∀ (st : Store) (k : Nat), (st.writeTaps l r k vs).scrub = st.scrub := by
  induction vs with
  | nil => exact fun _ _ => rfl
  | cons v vs ih => intro st k; simp [Store.writeTaps, ih]

theorem keeps_store (s : State) (st : Store) (hm : st.map = s.store.map)
    (hs : st.scrub = s.store.scrub) : Keeps s { s with store := st } :=
  ⟨rfl, rfl, rfl, fun _ => ⟨rfl, rfl, rfl⟩, hm, hs⟩

theorem keeps_writeChains (s : State) (l : LaneId) (cs : Chains) : Keeps s (s.writeChains l cs) :=
  keeps_store s _ (by simp) (by simp)

theorem Keeps.writeChains (h : Keeps s t) (l : LaneId) (cs : Chains) : Keeps s (t.writeChains l cs) :=
  h.withStore _ (by simp) (by simp)

theorem Keeps.landUpdates (l : LaneId) (fz : Vector (Option Freeze) 3) (us : List Update) :
    ∀ {t : State}, Keeps s t → Keeps s (t.landUpdates l fz us) := by
  induction us with
  | nil => exact fun h => h
  | cons u us ih =>
    intro t h
    simp only [State.landUpdates]
    apply ih
    split
    · exact Keeps.withStore (h.setLane l _) _ (by simp) (by simp)
    · exact h

theorem Keeps.testLatch (h : Keeps s t) (l : LaneId) (m : Meter) (n : Nat) :
    Keeps s (t.testLatch l m n) := by
  simp only [State.testLatch]
  split
  · split
    · exact h.trans ((Steady.refl t).raiseLane _ _).toKeeps
    · exact h
  · split
    · exact (h.setLane l _).trans ((Steady.refl _).raiseLane _ _).toKeeps
    · exact h

theorem Steady.autoSave (h : Steady s t) (l : LaneId) (g : Guard) (n : Nat) :
    Steady s (t.autoSave l g n) := by
  simp only [State.autoSave]
  split
  · exact h.request _ _
  · exact h

theorem Keeps.meterStep (h : Keeps s t) (l : LaneId) (start : Lane) (b : Bool) (k : TalkState)
    (em eo : Nat) : Keeps s (t.meterStep l start b k em eo) := by
  simp only [State.meterStep, State.meterWindow]
  split
  · split
    · split
      · exact (Keeps.testLatch ((h.setLane l _).setLane l _) _ _ _).trans
          ((Steady.refl _).autoSave _ _ _).toKeeps
      · exact (h.setLane l _).setLane l _
    · exact (h.setLane l _).setLane l _
  · exact h.setLane l _

theorem Steady.trip (h : Steady s t) (l : LaneId) (g : Guard) : Steady s (t.trip l g) := by
  simp only [State.trip]
  split
  · exact (((h.removeEntries _).setLane l _ (by simp)).request _ _).raiseLane _ _
  · exact (((h.removeEntries _).setLane l _ (by simp)).request _ _).raiseLane _ _

theorem Steady.guardStep (h : Steady s t) (l : LaneId) (g : Guard) (v : Verdict) :
    Steady s (t.guardStep l g v) := by
  simp only [State.guardStep, State.setDivergence]
  split
  · split
    · exact h
    · exact h.setLane l _ (by simp)
    · exact h.setLane l _ (by simp)
    · exact h.trip l g
  · exact h

theorem Steady.outputStep (h : Steady s t) (l : LaneId) (f : OutFrame) :
    Steady s (t.outputStep l f) := by
  simp only [State.outputStep]
  split
  · exact Steady.flush (Steady.insertOutput (h.setLane l _ (by simp)) l f) l
  · exact Steady.insertOutput (h.setLane l _ (by simp)) l f

/-- A `Steady` operation after what `Keeps` names. -/
theorem Keeps.steady {u : State} (h : Keeps s t) (k : Steady t u) : Keeps s u := h.trans k.toKeeps

theorem Keeps.landResults (h : Keeps s t) (i : PassInputs) (res : PassResults) :
    Keeps s (t.landResults i res) := by
  simp only [State.landResults, State.talkStep, State.cursorStep]
  refine Keeps.steady ?_ ((Steady.refl _).outputStep _ _)
  apply Keeps.setLane
  refine Keeps.steady ?_ ((Steady.refl _).guardStep _ _ _)
  apply Keeps.meterStep
  apply Keeps.setLane
  exact Keeps.landUpdates _ _ _ h

/-- The completion of a pass keeps what `Keeps` names. -/
theorem Keeps.completePass (h : Keeps s t) (i : PassInputs) (g : Nat) :
    Keeps s (t.completePass i g) := by
  simp only [State.completePass]
  refine Keeps.steady ?_ ((Steady.refl _).engineIdle)
  refine Keeps.steady ?_ ((Steady.refl _).countPass)
  split
  · exact h.setLane _ _
  · exact h.landResults _ _

theorem Steady.completeSave (h : Steady s t) (l : LaneId) (x : Lane) (c : Chains) (e : Epoch) :
    Steady s (t.completeSave l x c e) := by
  simp only [State.completeSave]
  apply Steady.engineIdle
  generalize (if Config.stackDepth ≤ (t.lane l).guard.stack.length then
    dropBottom t.checkpoints (t.lane l).guard.stack
    else (t.checkpoints, (t.lane l).guard.stack)) = a
  generalize makeRoom _ _ a.1 a.2 = b
  split
  · exact Steady.raiseLane (Steady.withCheckpoints (h.setLane l _ (by simp)) _) _ _
  · exact Steady.withCheckpoints (h.setLane l _ (by simp)) _

theorem Keeps.completeRestore (h : Keeps s t) (l : LaneId) (x : Lane) (c : Chains) :
    Keeps s (t.completeRestore l x c) := by
  simp only [State.completeRestore]
  refine Keeps.steady ?_ ((Steady.refl _).engineIdle)
  split
  · exact Keeps.steady ((h.writeChains l _).setLane l _) ((Steady.refl _).withCheckpoints _)
  · exact h.writeChains l _

theorem Keeps.completeClear (h : Keeps s t) (l : LaneId) : Keeps s (t.completeClear l) := by
  simp only [State.completeClear]
  refine Keeps.steady ?_ ((Steady.refl _).engineIdle)
  split
  · exact (h.writeChains l _).setLane l _
  · exact h.writeChains l _

theorem Keeps.completeShift (h : Keeps s t) (l : LaneId) (r : RefId) (d : Int)
    (old : List Partition) : Keeps s (t.completeShift l r d old) := by
  simp only [State.completeShift]
  refine Keeps.steady ?_ ((Steady.refl _).endRealignIfDone _)
  refine Keeps.steady ?_ ((Steady.refl _).engineIdle)
  exact Keeps.setLane (h.withStore _ (by simp) (by simp)) l _

end

end Sys2Proof.Machine
end

