-- ==== Sys2Proof/Laws/Operations.lean ====
section
/-! SUPPORT. What shared operations do, said once for each: the record that inserting an output frame
leaves, passing frames through as a fold, the SHIFT requests of a commit, and the record that a gap
leaves. -/

namespace Sys2Proof.Machine

/-- The lane record that an inserted output frame leaves (R26). -/
theorem State.insertOutput_lane (s : State) (l : LaneId) (o : OutFrame) :
    (s.insertOutput l o).lane l =
      if 4 ≤ (s.lane l).output.length then
        { s.lane l with
          output := (s.lane l).output.drop 1 ++ [o]
          counters := { (s.lane l).counters with
            overruns := countUp (s.lane l).counters.overruns 1 } }
      else { s.lane l with output := (s.lane l).output ++ [o] } := by
  by_cases h : 4 ≤ (s.lane l).output.length
  · simp [State.insertOutput, Config.queueDepth, h]
  · simp [State.insertOutput, Config.queueDepth, h]

/-- Frames are passed through one after another (R29). -/
theorem State.passFrames_eq_foldl (l : LaneId) (fs : List InFrame) :
    ∀ s : State, s.passFrames l fs = fs.foldl (fun t f => t.passFrame l f) s := by
  induction fs with
  | nil => exact fun _ => rfl
  | cons f fs ih => intro s; rw [State.passFrames, ih, List.foldl_cons]

/-- The record of the reference that a gap leaves (R12, R13). -/
theorem State.gap_ref (s : State) (r : RefId) (p : Epoch) :
    (s.gap r p).ref r =
      (let x := recordGap (s.ref r) p
        if x.state = .active ∧ x.consecutiveGaps = 4 then { x with state := .stalled } else x) := by
  simp only [State.gap]
  split <;> simp

/-- A waiting entry repeats a SHIFT request exactly when it is a SHIFT of its lane and reference (R61). -/
theorem MaintEntry.sameAs_shift (l : LaneId) (r : RefId) (d : Int) (e : MaintEntry) :
    ({ kind := .shift r d, lane := l } : MaintEntry).sameAs e = (e.lane == l && e.isShiftOf r) := by
  obtain ⟨k, l'⟩ := e
  cases k <;> simp [MaintEntry.sameAs, MaintEntry.isShiftOf, eq_comm, Bool.beq_eq_decide_eq]

/-- A SHIFT request joins the queue unless its lane is UNBOUND or a SHIFT of its lane and reference
waits (R61). -/
theorem State.request_shift (s : State) (l : LaneId) (r : RefId) (d : Int) :
    s.request l (.shift r d) =
      if (s.lane l).state = .unbound ∨ s.shiftWaiting l r = true then s
      else { s with engine := { s.engine with
        queue := s.engine.queue ++ [{ kind := .shift r d, lane := l }] } } := by
  simp only [State.request, State.shiftWaiting, Bool.or_eq_true, decide_eq_true_eq]
  have h : ({ kind := .shift r d, lane := l } : MaintEntry).sameAs =
      fun e => e.lane == l && e.isShiftOf r := funext (MaintEntry.sameAs_shift l r d)
  rw [h]
  congr

end Sys2Proof.Machine
end

