-- ==== Sys2Proof/Laws/Store.lean ====
section
/-! SUPPORT. The Coefficient Store and the Checkpoint Store: read after write, what an allocation, a
release and a freeing of slots do to every record. -/

namespace Sys2Proof.Machine

/-! ## Chain positions -/

/-- The partition at a chain position carries that position's record. -/
theorem Store.map_of_partAt {st : Store} {l : LaneId} {r : RefId} {j : Nat} {p : PartId}
    (h : st.partAt l r j = some p) : st.map[p] = .bound l r j := by
  have := List.find?_some h
  simpa using this

/-- Two chain positions never share a partition. -/
theorem Store.partAt_inj {st : Store} {l l' : LaneId} {r r' : RefId} {j j' : Nat} {p : PartId}
    (h : st.partAt l r j = some p) (h' : st.partAt l' r' j' = some p) :
    l = l' ∧ r = r' ∧ j = j' := by
  have := (Store.map_of_partAt h).symm.trans (Store.map_of_partAt h')
  simpa using this

/-- The chain positions of a store depend on its map alone. -/
theorem Store.partAt_congr {st st' : Store} (h : st'.map = st.map) (l : LaneId) (r : RefId)
    (j : Nat) : st'.partAt l r j = st.partAt l r j := by
  simp [Store.partAt, h]

/-! ## Reading after writing -/

/-- A partition written is read back, where the chain has the position. -/
theorem Store.readPart_writePart_self {st : Store} {l : LaneId} {r : RefId} {j : Nat}
    (h : (st.partAt l r j).isSome) (x : Partition) :
    (st.writePart l r j x).readPart l r j = x := by
  obtain ⟨p, hp⟩ := Option.isSome_iff_exists.1 h
  have h1 : (st.writePart l r j x).partAt l r j = some p := by
    rw [Store.partAt_congr (Store.writePart_map ..), hp]
  simp only [Store.readPart, h1]
  simp [Store.writePart, hp]

/-- Every other position reads as before. -/
theorem Store.readPart_writePart_ne (st : Store) {l l' : LaneId} {r r' : RefId} {j j' : Nat}
    (h : ¬(l' = l ∧ r' = r ∧ j' = j)) (x : Partition) :
    (st.writePart l r j x).readPart l' r' j' = st.readPart l' r' j' := by
  have h1 := Store.partAt_congr (Store.writePart_map st l r j x) l' r' j'
  simp only [Store.readPart, h1]
  cases hq : st.partAt l' r' j' with
  | none => rfl
  | some q =>
    cases hp : st.partAt l r j with
    | none => simp [Store.writePart, hp]
    | some p =>
      have hne : p.val ≠ q.val := by
        intro hc
        have hpq : p = q := Fin.ext hc
        subst hpq
        obtain ⟨a, b, c⟩ := Store.partAt_inj hq hp
        exact h ⟨a, b, c⟩
      simp [Store.writePart, hp, hne]

/-- A partition of another lane keeps its coefficients. -/
theorem Store.writePart_coefs_ne (st : Store) (l : LaneId) (r : RefId) (j : Nat) (x : Partition)
    (q : PartId) (h : (st.map[q]).ownedFrom l 0 = false) :
    (st.writePart l r j x).coefs[q] = st.coefs[q] := by
  cases hp : st.partAt l r j with
  | none => simp [Store.writePart, hp]
  | some p =>
    have hne : p.val ≠ q.val := by
      intro hc
      have hpq : p = q := Fin.ext hc
      subst hpq
      rw [Store.map_of_partAt hp] at h
      simp [PartRecord.ownedFrom] at h
    simp [Store.writePart, hp, hne]

/-- A chain written from position `j` on: every position that takes a partition, where the chain has it,
and every other place. -/
theorem Store.readPart_writeChain (l : LaneId) (r : RefId) (xs : List Partition) :
    ∀ (st : Store) (j : Nat),
      (∀ i, (h : i < xs.length) → (st.partAt l r (j + i)).isSome →
        (st.writeChain l r j xs).readPart l r (j + i) = xs[i])
      ∧ (∀ l' r' k, ¬(l' = l ∧ r' = r ∧ j ≤ k ∧ k < j + xs.length) →
        (st.writeChain l r j xs).readPart l' r' k = st.readPart l' r' k) := by
  induction xs with
  | nil => exact fun st j => ⟨fun i h => absurd h (by simp), fun _ _ _ _ => rfl⟩
  | cons x xs ih =>
    intro st j
    obtain ⟨a, b⟩ := ih (st.writePart l r j x) (j + 1)
    refine ⟨?_, ?_⟩
    · intro i h hs
      rcases i with _ | i
      · have hb := b l r j (by omega)
        simp only [Store.writeChain, Nat.add_zero, List.getElem_cons_zero, hb]
        exact Store.readPart_writePart_self (by simpa using hs) x
      · have := a i (by simpa using h) (by
          rw [Store.partAt_congr (Store.writePart_map ..), Nat.add_right_comm]; exact hs)
        simp only [Store.writeChain, List.getElem_cons_succ]
        rw [← this]
        congr 1
        omega
    · intro l' r' k hk
      simp only [Store.writeChain]
      rw [b l' r' k (by
        simp only [List.length_cons] at hk
        rintro ⟨rfl, rfl, h1, h2⟩
        exact hk ⟨rfl, rfl, by omega, by omega⟩)]
      refine Store.readPart_writePart_ne st ?_ x
      rintro ⟨rfl, rfl, rfl⟩
      exact hk ⟨rfl, rfl, Nat.le_refl _, by simp⟩

/-- A chain written leaves the partitions of other lanes. -/
theorem Store.writeChain_coefs_ne (l : LaneId) (r : RefId) (xs : List Partition) :
    ∀ (st : Store) (j : Nat) (q : PartId), (st.map[q]).ownedFrom l 0 = false →
      (st.writeChain l r j xs).coefs[q] = st.coefs[q] := by
  induction xs with
  | nil => exact fun _ _ _ _ => rfl
  | cons x xs ih =>
    intro st j q h
    simp only [Store.writeChain]
    rw [ih _ _ _ (by simpa using h), Store.writePart_coefs_ne _ _ _ _ _ _ h]

/-- A tap written is read back, and every other tap of every chain reads as before. -/
theorem Store.readTap_writeTap (st : Store) (l : LaneId) (r : RefId) (k : Nat) (c : Coef) :
    ((st.partAt l r (k / 256)).isSome → (st.writeTap l r k c).readTap l r k = c)
      ∧ ∀ l' r' k', ¬(l' = l ∧ r' = r ∧ k' = k) →
          (st.writeTap l r k c).readTap l' r' k' = st.readTap l' r' k' := by
  refine ⟨?_, ?_⟩
  · intro h
    simp only [Store.readTap, Store.writeTap, Store.readPart_writePart_self h]
    simp
  · intro l' r' k' hne
    simp only [Store.readTap, Store.writeTap]
    by_cases hp : l' = l ∧ r' = r ∧ k' / 256 = k / 256
    · obtain ⟨rfl, rfl, hk⟩ := hp
      rw [hk]
      have hk' : k % 256 ≠ k' % 256 := by
        intro hc; exact hne ⟨rfl, rfl, by omega⟩
      cases hq : st.partAt l' r' (k / 256) with
      | none => simp [Store.writePart, hq]
      | some q =>
        have e := Store.readPart_writePart_self (st := st) (l := l') (r := r') (j := k / 256)
          (by rw [hq]; rfl)
        refine (congrArg (fun v : Partition => v[(⟨k' % 256, Nat.mod_lt _ (by decide)⟩ : Fin 256)])
          (e _)).trans ?_
        simp [hk']
    · exact congrArg (fun v : Partition => v[(⟨k' % 256, Nat.mod_lt _ (by decide)⟩ : Fin 256)])
        (Store.readPart_writePart_ne st hp _)

/-- Values written from tap `k` on are read back saturated, where the chain has the positions; every
other tap reads as before. -/
theorem Store.readTap_writeTaps (l : LaneId) (r : RefId) (vs : List Int) :
    ∀ (st : Store) (k : Nat),
      (∀ i, (h : i < vs.length) → (st.partAt l r ((k + i) / 256)).isSome →
        (st.writeTaps l r k vs).readTap l r (k + i) = BitVec.ofInt 24 (saturate24 vs[i]))
      ∧ (∀ l' r' k', ¬(l' = l ∧ r' = r ∧ k ≤ k' ∧ k' < k + vs.length) →
        (st.writeTaps l r k vs).readTap l' r' k' = st.readTap l' r' k') := by
  induction vs with
  | nil => exact fun st k => ⟨fun i h => absurd h (by simp), fun _ _ _ _ => rfl⟩
  | cons v vs ih =>
    intro st k
    obtain ⟨a, b⟩ := ih (st.writeTap l r k (BitVec.ofInt 24 (saturate24 v))) (k + 1)
    refine ⟨?_, ?_⟩
    · intro i h hs
      rcases i with _ | i
      · have hb := b l r k (by omega)
        simp only [Store.writeTaps, Nat.add_zero, List.getElem_cons_zero, hb]
        exact (Store.readTap_writeTap st l r k _).1 (by simpa using hs)
      · have := a i (by simpa using h) (by
          rw [Store.partAt_congr (Store.writeTap_map ..), show k + 1 + i = k + (i + 1) by omega]
          exact hs)
        simp only [Store.writeTaps, List.getElem_cons_succ]
        rw [← this]
        congr 1
        omega
    · intro l' r' k' hk
      simp only [Store.writeTaps]
      rw [b l' r' k' (by
        simp only [List.length_cons] at hk
        rintro ⟨rfl, rfl, h1, h2⟩
        exact hk ⟨rfl, rfl, by omega, by omega⟩)]
      refine (Store.readTap_writeTap st l r k _).2 l' r' k' ?_
      rintro ⟨rfl, rfl, rfl⟩
      exact hk ⟨rfl, rfl, Nat.le_refl _, by simp⟩

/-- Every chain of a lane written from its head: the positions written, where the chains have them, the
chains of other lanes, and the partitions of other lanes. -/
theorem State.readPart_writeChains (s : State) (l : LaneId) (cs : Chains) :
    (∀ (r : RefId) (i : Nat) (h : i < (cs[r]).length), (s.store.partAt l r i).isSome →
        (s.writeChains l cs).store.readPart l r i = (cs[r])[i])
      ∧ (∀ l' r' k, ¬(l' = l ∧ k < (cs[r']).length) →
        (s.writeChains l cs).store.readPart l' r' k = s.store.readPart l' r' k)
      ∧ (∀ q : PartId, (s.store.map[q]).ownedFrom l 0 = false →
        (s.writeChains l cs).store.coefs[q] = s.store.coefs[q]) := by
  have c1 := Store.readPart_writeChain l 0 cs[0] s.store 0
  have c2 := Store.readPart_writeChain l 1 cs[1] (s.store.writeChain l 0 0 cs[0]) 0
  have c3 := Store.readPart_writeChain l 2 cs[2]
    ((s.store.writeChain l 0 0 cs[0]).writeChain l 1 0 cs[1]) 0
  simp only [Nat.zero_add, Nat.zero_le, true_and] at c1 c2 c3
  refine ⟨?_, ?_, ?_⟩
  · intro r i h hs
    simp only [State.writeChains]
    have e1 := Store.partAt_congr (Store.writeChain_map l 0 cs[0] s.store 0) l
    have e2 := Store.partAt_congr
      (Store.writeChain_map l 1 cs[1] (s.store.writeChain l 0 0 cs[0]) 0) l
    fin_cases r
    · rw [c3.2 _ _ _ (by rintro ⟨-, h, -⟩; simp at h), c2.2 _ _ _ (by rintro ⟨-, h, -⟩; simp at h)]
      exact c1.1 i h hs
    · rw [c3.2 _ _ _ (by rintro ⟨-, h, -⟩; simp at h)]
      exact c2.1 i h (by rw [e1]; exact hs)
    · exact c3.1 i h (by rw [e2, e1]; exact hs)
  · intro l' r' k hk
    simp only [State.writeChains]
    rw [c3.2 _ _ _ (by rintro ⟨rfl, rfl, h⟩; exact hk ⟨rfl, h⟩),
      c2.2 _ _ _ (by rintro ⟨rfl, rfl, h⟩; exact hk ⟨rfl, h⟩),
      c1.2 _ _ _ (by rintro ⟨rfl, rfl, h⟩; exact hk ⟨rfl, h⟩)]
  · intro q hq
    simp only [State.writeChains]
    rw [Store.writeChain_coefs_ne _ _ _ _ _ _ (by simpa using hq),
      Store.writeChain_coefs_ne _ _ _ _ _ _ (by simpa using hq),
      Store.writeChain_coefs_ne _ _ _ _ _ _ hq]

/-! ## Allocation and release -/

/-- Partitions given to places: each carries its place's record, and every other partition's record
stays. No coefficient changes. -/
theorem Store.bindAll_map (l : LaneId) (xs : List (PartId × RefId × Nat)) :
    ∀ st : Store, (xs.map Prod.fst).Nodup →
      (∀ x ∈ xs, (st.bindAll l xs).map[x.1] = .bound l x.2.1 x.2.2)
        ∧ (∀ p : PartId, p ∉ xs.map Prod.fst → (st.bindAll l xs).map[p] = st.map[p])
        ∧ (st.bindAll l xs).coefs = st.coefs ∧ (st.bindAll l xs).scrub = st.scrub := by
  induction xs with
  | nil => exact fun st _ => ⟨by simp, fun _ _ => rfl, rfl, rfl⟩
  | cons x xs ih =>
    intro st hnd
    obtain ⟨p, r, j⟩ := x
    simp only [List.map_cons, List.nodup_cons] at hnd
    obtain ⟨b1, b2, b3, b4⟩ := ih (st.bindPart p l r j) hnd.2
    have hne : ∀ q : PartId, q ≠ p → (st.bindPart p l r j).map[q] = st.map[q] := by
      intro q hq
      have : p.val ≠ q.val := fun h => hq (Fin.ext h.symm)
      simp [Store.bindPart, this]
    refine ⟨?_, ?_, b3, b4⟩
    · intro x hx
      rcases List.mem_cons.1 hx with rfl | hx
      · simp only [Store.bindAll]
        rw [b2 p hnd.1]
        simp [Store.bindPart]
      · exact b1 x hx
    · intro q hq
      simp only [List.map_cons, List.mem_cons, not_or] at hq
      simp only [Store.bindAll]
      rw [b2 q hq.2, hne q hq.1]

/-- A release touches only the map: the lane's partitions from position `n` on are SCRUB. -/
theorem Store.release_facts (st : Store) (l : LaneId) (n : Nat) :
    (st.release l n).coefs = st.coefs ∧ (st.release l n).scrub = st.scrub
      ∧ ∀ p : PartId, (st.release l n).map[p] =
          if (st.map[p]).ownedFrom l n = true then .scrub else st.map[p] := by
  simp [Store.release]

/-! ## The Checkpoint Store -/

/-- Freeing slots keeps every slot's contents and every other slot's record. -/
theorem CheckpointStore.freeAll_facts (is : List SlotId) :
    ∀ cs : CheckpointStore, (cs.freeAll is).slots = cs.slots
      ∧ ∀ i : SlotId, (cs.freeAll is).free[i] = true ↔ cs.free[i] = true ∨ i ∈ is := by
  induction is with
  | nil => intro cs; simp [CheckpointStore.freeAll]
  | cons j js ih =>
    intro cs
    obtain ⟨a, b⟩ := ih { cs with free := cs.free.set j true }
    refine ⟨a, ?_⟩
    intro i
    simp only [CheckpointStore.freeAll]
    rw [b i]
    by_cases h : i = j
    · subst h; simp
    · have : j.val ≠ i.val := fun hc => h (Fin.ext hc.symm)
      simp [this, h]

/-- Slots taken and written: each holds what was assigned to it and is not free; every other slot stays. -/
theorem CheckpointStore.writeAll_facts (xs : List (SlotId × Partition)) :
    ∀ cs : CheckpointStore, (xs.map Prod.fst).Nodup →
      (∀ x ∈ xs, (cs.writeAll xs).slots[x.1] = x.2)
        ∧ (∀ i : SlotId, i ∉ xs.map Prod.fst → (cs.writeAll xs).slots[i] = cs.slots[i])
        ∧ ∀ i : SlotId, (cs.writeAll xs).free[i] = true ↔
            cs.free[i] = true ∧ i ∉ xs.map Prod.fst := by
  induction xs with
  | nil => intro cs _; simp [CheckpointStore.writeAll]
  | cons x xs ih =>
    intro cs hnd
    obtain ⟨j, v⟩ := x
    simp only [List.map_cons, List.nodup_cons] at hnd
    obtain ⟨a, b, c⟩ := ih { slots := cs.slots.set j v, free := cs.free.set j false } hnd.2
    refine ⟨?_, ?_, ?_⟩
    · intro x hx
      rcases List.mem_cons.1 hx with rfl | hx
      · simp only [CheckpointStore.writeAll]
        rw [b j hnd.1]
        simp
      · exact a x hx
    · intro i hi
      simp only [List.map_cons, List.mem_cons, not_or] at hi
      simp only [CheckpointStore.writeAll]
      have : j.val ≠ i.val := fun hc => hi.1 (Fin.ext hc.symm)
      rw [b i hi.2]
      simp [this]
    · intro i
      simp only [CheckpointStore.writeAll]
      rw [c i]
      by_cases h : i = j
      · subst h; simp
      · have : j.val ≠ i.val := fun hc => h (Fin.ext hc.symm)
        simp [this, h]

end Sys2Proof.Machine
end

