-- ==== Sys2Proof/Tests/Slice0.lean ====
section
/-! SUPPORT. Tests: ill-formed terms are refused, the words of section 9.8 and 9.9 are read as the
manual writes them, at least one effect of every row of the opcode table, and for every statement with
hypotheses a state and operands that meet them. Expected values come from the manual. -/

set_option Elab.async false

namespace Sys2Proof.Tests

open Sys2Proof.Machine

/-! ## Small states -/

/-- A complete command with target `t` and payload `ws`. -/
def cmd (t : Byte) (ws : List Word) : Message :=
  { target := t, declared := BitVec.ofNat 16 ws.length, payload := ws }

/-- A frame message of epoch `e` whose samples are all `x`. -/
def frameCmd (t : Byte) (e : Word) (x : Word) : Message := cmd t (e :: List.replicate 128 x)

/-- Port `p` has a transaction in COMMAND, with no whole word received. -/
def onPort (p : Port) (s : State) : State := s.setDecoder p (.command [])

/-- The state a step leaves. -/
def after (o : Host.Outcome State Fault Refusal) : State :=
  match o with
  | .next t => t
  | _ => State.reset

/-- The response words port `p` holds after a step, behind the turnaround word. -/
def reply (o : Host.Outcome State Fault Refusal) (p : Port) : List Word :=
  match ((after o).port p).decoder with
  | .responding (w :: ws) => if w = turnaround then ws else []
  | _ => []

/-- A lane bound to REF0 with a tail of 2, in state `st`. -/
def boundAs (st : LaneState) : Lane :=
  { Lane.reset with
    state := st, refs := some 1, tail := some 2, delays := (Vector.replicate 3 none).set 0 (some 0) }

/-- Lane 3 holds `x`, with partitions 5 and 9 at its positions 0 and 1; every other partition is FREE. -/
def withLane (x : Lane) : State :=
  { State.reset.setLane 3 x with
    store :=
      { map := ((Vector.replicate 384 PartRecord.free).set 5 (.bound 3 0 0)).set 9 (.bound 3 0 1)
        coefs := Vector.replicate 384 zeroPartition, scrub := none } }

/-- Lane 3 bound, in state `st`. -/
def laneAs (st : LaneState) : State := withLane (boundAs st)

/-- REF0 in state `st` with nothing to resolve before epoch 0. -/
def refAs (st : RefState) : State :=
  State.reset.setRef 0 { Reference.reset with state := st, resolution := some 0 }

/-- The engine runs `j` with `q` waiting. -/
def working (j : Option Job) (q : List MaintEntry) (s : State) : State :=
  { s with engine := { s.engine with job := j, queue := q } }

/-- The engine runs a CLEAR of lane 9, so it starts nothing. -/
def busy (s : State) : State := working (some (.clear 9)) [] s

/-- The actions `d` of an advance are due, and E is `e`. -/
def dueAt (e : Epoch) (d : List EpochAction) (s : State) : State := { s with epoch := e, due := d }

/-- An input frame of zeros. -/
def quietFrame (e : Epoch) : InFrame := { epoch := e, samples := silence }

/-- A pass of lane 3, which reads REF0 but no tap. -/
def tinyPass (x : Lane) : PassInputs :=
  { lane := 3, frame := quietFrame 0, record := { x with tail := some 0 }
    refs := Vector.replicate 3 { Reference.reset with
      state := .active
      ring := (Vector.replicate 128 Slot.reset).set 0
        { epoch := 0, fill := .data, samples := silence, peak := 400, energy := 0 } }
    chains := Vector.replicate 3 [] }

/-! ## Terms that are no rows -/

theorem test_incomplete_message_refused :
    exec (.nop .portS { target := 0, declared := 1, payload := [] }) State.reset
      = .refused .illFormed := by rfl

theorem test_known_code_is_not_unknown :
    exec (.unknownKind .portS 0x01 (cmd 0 [])) State.reset = .refused .illFormed := by rfl

theorem test_completing_word_is_the_commands_own_row :
    exec (.transactionStart { port := .portS, words := [0x0100, 0] }) State.reset
      = .refused .illFormed := by rfl

theorem test_payload_of_overlong_length_refused :
    (Message.wellFormed { target := 0, declared := 261, payload := [0] }) = false
      ∧ (Message.wellFormed { target := 0, declared := 261, payload := [] }) = true := by decide

/-! ## Words (sections 9.4, 9.8 and 9.9) -/

theorem test_word_nop :
    decodeCommand .portS [0x0100, 0x0000] = some (.nop .portS (cmd 0 [])) := by decide

theorem test_word_bind :
    decodeCommand .portS [0x2306, 0x0002, 0x0001, 0x0008]
      = some (.bind .portS (cmd 6 [1, 8])) := by decide

theorem test_word_fetch :
    decodeCommand .portM [0x2106, 0x0000] = some (.fetch .portM (cmd 6 [])) := by decide

theorem test_word_mic_frame :
    decodeCommand .portM ([0x2006, 0x0081, 0x0BC9] ++ List.replicate 127 7) = none
      ∧ decodeCommand .portM ([0x2006, 0x0081, 0x0BC9] ++ List.replicate 128 7)
        = some (.micFrame .portM (frameCmd 6 3017 7)) := by decide +kernel

theorem test_word_set_delay :
    decodeCommand .portS [0x6202, 0x0001, 0x03FF] = some (.setDelay .portS (cmd 2 [1023])) := by
  decide

theorem test_word_coeff_read :
    decodeCommand .portR [0x3004, 0x0003, 1, 640, 100] = some (.coeffRead .portR (cmd 4 [1, 640, 100])) := by
  decide

theorem test_word_lane_config :
    decodeCommand .portS [0x4003, 0x0003, 48, 4, 20]
      = some (.laneConfig .portS (cmd 3 [48, 4, 20])) := by decide

theorem test_word_talk_config :
    decodeCommand .portS [0x500F, 0x0004, 8, 6, 328, 328]
      = some (.talkConfig .portS (cmd 15 [8, 6, 328, 328])) := by decide

theorem test_word_meter_read :
    decodeCommand .portM [0x7102, 0x0000] = some (.meterRead .portM (cmd 2 [])) := by decide

theorem test_word_guard_status :
    decodeCommand .portR [0x840C, 0x0000] = some (.guardStatus .portR (cmd 12 [])) := by decide

theorem test_word_notice_config :
    decodeCommand .portR [0x9100, 0x0002, 0x0886, 1]
      = some (.noticeConfig .portR (cmd 0 [0x0886, 1])) := by decide

theorem test_word_ref_config :
    decodeCommand .portS [0x1201, 0x0002, 3, 1] = some (.refConfig .portS (cmd 1 [3, 1])) := by decide

theorem test_word_device_reset :
    decodeCommand .portS [0xE000, 0x0000] = some (.deviceReset .portS (cmd 0 [])) := by decide

theorem test_word_unknown :
    decodeCommand .portR [0x0005, 0x0000] = some (.unknownKind .portR 0 (cmd 5 [])) := by decide

/-! ## Resets and the epoch advance -/

theorem test_power_on :
    let t := after (exec .powerOn { laneAs .run with epoch := 9 })
    t.epoch = 0 ∧ (t.lane 3).state = .unbound ∧ t.store.scrub = none := by decide

theorem test_reset_n_assert :
    let t := after (exec .resetNAssert { laneAs .run with epoch := 9 })
    t.epoch = 0 ∧ t.resetLow = true ∧ t.store.map[5] = .scrub := by decide

theorem test_reset_n_release :
    (after (exec .resetNRelease (after (exec .resetNAssert State.reset)))).store.scrub = some 0 := by
  decide +kernel

theorem test_device_reset :
    let o := exec (.deviceReset .portS (cmd 0 [])) (onPort .portM (onPort .portS (laneAs .run)))
    reply o .portS = [0x00E0, 0] ∧ ((after o).port .portM).decoder = .draining
      ∧ ((after o).port .portR).decoder = .wait ∧ ((after o).lane 3).state = .unbound := by
  decide +kernel

theorem test_device_reset_drops_the_scrubs_completion :
    let t := after (exec (.deviceReset .portS (cmd 0 [])) (onPort .portS State.reset))
    let u := after (exec .scrubComplete t)
    u.store.map[0] = .scrub ∧ u.store.scrub = some 0
      ∧ (after (exec .scrubComplete (after (exec .scrubStart t)))).store.scrub = some 1 := by
  decide +kernel

theorem test_epoch_advance_wraps :
    let t := after (exec .epochAdvance { State.reset with
      epoch := 65535, engine := { Engine.reset with budget := 3 } })
    t.epoch = 0 ∧ t.engine.budget = 128 := by decide

theorem test_epoch_advance_ignored_while_reset_low :
    (after (exec .epochAdvance { State.reset with resetLow := true })).epoch = 0 := by decide

theorem test_epoch_resolution_gap :
    let t := after (exec (.epochResolution 0) (dueAt 2 [.resolve 0] (refAs .active)))
    (t.ref 0).totalGaps = 1 ∧ (t.ref 0).resolution = some 1 ∧ (t.ref 0).consecutiveGaps = 1 := by
  decide

/-- The example of R16 at E = 4: W is set to 1 with N = 0, and no epoch has DATA. REF0's tracker has an
onset record of an epoch 41 behind. -/
def waitLowered : State :=
  dueAt 4 [.onsetAge 0, .resolve 0] ((State.reset.setRef 0 { Reference.reset with
    state := .active, resolution := some 0, wait := 1 }).setTracker 0 { Tracker.reset with
      state := .opened, enabled := true, onset := some { index := 0, epoch := 65499 } })

theorem test_epoch_resolution_of_several_stalls :
    let t := after (exec (.epochResolution 0) waitLowered)
    (t.ref 0).state = .stalled ∧ (t.ref 0).totalGaps = 4 ∧ (t.ref 0).resolution = some 4
      ∧ (t.tracker 0).missCount = 1 ∧ (t.tracker 0).quietCount = 0 := by decide +kernel

theorem test_frame_expiry :
    let x := { boundAs .run with input := [quietFrame 68, quietFrame 69] }
    let t := after (exec (.frameExpiry 3) (dueAt 100 [.expire 3] (withLane x)))
    (t.lane 3).input.map (fun f => f.epoch) = [69] ∧ (t.lane 3).counters.expired = 1 := by decide

theorem test_last_accepted_ages_at_1024 :
    let x := { boundAs .run with lastAccepted := some 1 }
    let at' := fun e => (after (exec (.lastAcceptedEpochAgeOut 3)
      (dueAt e [.acceptedAge 3] (withLane x)))).lane 3
    (at' 1024).lastAccepted = some 1 ∧ (at' 1025).lastAccepted = none := by decide

theorem test_retry_countdown_end :
    let x := { boundAs .tripped with lock := true, guard := { Guard.reset with retry := some 1 } }
    let t := after (exec (.retryCountdownEnd 3) (dueAt 9 [.retryEnd 3] (withLane x)))
    (t.lane 3).state = .run ∧ (t.lane 3).lock = false ∧ (t.lane 3).guard.retry = none := by decide

theorem test_hold_countdown_end :
    let t := after (exec (.holdCountdownEnd 1)
      (dueAt 9 [.holdEnd 1] (State.reset.setRealign 1 { Realign.reset with hold := 1 })))
    (t.realign 1).hold = 0 := by decide

theorem test_last_change_ages_at_64 :
    let s := State.reset.setRealign 1 { Realign.reset with lastChange := some (.up, 0) }
    let at' := fun e => (after (exec (.lastChangeAgeOut 1) (dueAt e [.changeAge 1] s))).realign 1
    (at' 63).lastChange = some (.up, 0) ∧ (at' 64).lastChange = none := by decide

theorem test_onset_record_ages_above_40 :
    let s := State.reset.setTracker 2 { Tracker.reset with
      state := .opened, enabled := true, onset := some { index := 0, epoch := 0 } }
    let at' := fun e => (after (exec (.onsetRecordAgeOut 2) (dueAt e [.onsetAge 2] s))).tracker 2
    (at' 40).state = .opened ∧ (at' 41).state = .disarmed ∧ (at' 41).missCount = 1 := by decide

theorem test_last_save_ages_at_4096 :
    let x := { boundAs .run with guard := { Guard.reset with lastSave := some 0 } }
    let at' := fun e => (after (exec (.lastSaveEpochAgeOut 3)
      (dueAt e [.saveAge 3] (withLane x)))).lane 3
    (at' 4095).guard.lastSave = some 0 ∧ (at' 4096).guard.lastSave = none := by decide

/-! ## The ports -/

theorem test_transaction_start_holds_words :
    let t := after (exec (.transactionStart { port := .portR, words := [0x0100] }) State.reset)
    (t.port .portR).decoder = .command [0x0100]
      ∧ ((after (exec (.nop .portR (cmd 0 [])) t)).port .portR).decoder
        = .responding [0, 0x0001, 2, 0, 0] := by decide

theorem test_words_of_another_command_are_no_nop :
    let s := State.reset.setDecoder .portR (.command [0x1306])
    exec (.nop .portR (cmd 0 [])) s = .next s := rfl

theorem test_transaction_truncated :
    let cut := fun ws => (after (exec (.transactionTruncated { port := .portM, words := ws })
      (onPort .portM State.reset))).port .portM
    (cut [0x2006, 0x0081, 3017]).truncated = 1 ∧ (cut [0x2006, 0x0081, 3017]).decoder = .wait
      ∧ (cut []).truncated = 0 ∧ (cut [0x0100, 0]).truncated = 0 := by decide

theorem test_response_cut :
    let s := State.reset.setDecoder .portM (.responding [0, 1, 2])
    ((after (exec (.responseCut .portM) s)).port .portM).decoder = .wait := by decide

theorem test_response_sent :
    let s := State.reset.setDecoder .portM (.responding [0, 1, 2])
    let sent := fun n => ((after (exec (.responseSent { port := .portM, count := n }) s)).port
      .portM).decoder
    (s.port .portM).decoder.sdo = some 0 ∧ sent 2 = .responding [2] ∧ (sent 2).sdo = some 2
      ∧ sent 3 = .draining := by decide

theorem test_transaction_end :
    let ended := fun d => ((after (exec (.transactionEnd .portM) (State.reset.setDecoder .portM
      d))).port .portM).decoder
    ended .draining = .wait ∧ ended (.command []) = .wait
      ∧ ended (.command [0x0100]) = .command [0x0100] := by decide

theorem test_unknown_kind :
    let o := exec (.unknownKind .portR 0x77 (cmd 5 [])) (onPort .portR State.reset)
    reply o .portR = [0x3F77, 0] ∧ ((after o).port .portR).unknown = 1 := by decide

theorem test_nop :
    reply (exec (.nop .portS (cmd 0 [])) (onPort .portS { State.reset with epoch := 3016 })) .portS
      = [0x0001, 2, 2, 3016] := by decide

/-! ## The Reference History (section 1.9) -/

theorem test_declare_ref :
    let o := exec (.declareRef .portR (cmd 1 [1])) (onPort .portR { State.reset with epoch := 100 })
    reply o .portR = [0x0010, 0] ∧ ((after o).ref 1).resolution = some 100 := by decide +kernel

theorem test_declare_ref_of_another_port :
    reply (exec (.declareRef .portM (cmd 1 [1])) (onPort .portM State.reset)) .portM
      = [0x1110, 0] := by decide

theorem test_ref_frame_resumes :
    let x := { Reference.reset with
      state := .stalled, resolution := some 107, consecutiveGaps := 4, totalGaps := 5 }
    let o := exec (.refFrame .portR (frameCmd 1 108 9))
      (onPort .portR { State.reset.setRef 1 x with epoch := 108 })
    reply o .portR = [0x0011, 0] ∧ ((after o).ref 1).state = .active
      ∧ ((after o).ref 1).consecutiveGaps = 0 ∧ ((after o).ref 1).continuous = 1 := by
  decide +kernel

theorem test_ref_frame_late :
    let x := { Reference.reset with state := .active, resolution := some 103 }
    let o := exec (.refFrame .portR (frameCmd 1 102 9))
      (onPort .portR { State.reset.setRef 1 x with epoch := 104 })
    ((after o).ref 1).lateRefusals = 1 ∧ ((after o).ref 1).continuous = 0 := by decide +kernel

theorem test_ref_config_clamps :
    let o := exec (.refConfig .portS (cmd 0 [9, 1])) (onPort .portS State.reset)
    reply o .portS = [0x0112, 1, 4] ∧ ((after o).ref 0).wait = 4 := by decide

theorem test_ref_status :
    reply (exec (.refStatus .portR (cmd 2 [])) (onPort .portR { State.reset with epoch := 7 })) .portR
      = [0x0013, 12, 7, 0, 2, 0, 65535, 0, 65535, 0, 0, 0, 0, 0] := by decide

theorem test_history_read_wraps :
    let last := { Slot.reset with epoch := 127, fill := .data, samples := Vector.replicate 128 5 }
    let first := { Slot.reset with samples := Vector.replicate 128 6 }
    let x := { Reference.reset with ring := (Reference.reset.ring.set 127 last).set 0 first }
    let o := exec (.historyRead .portR (cmd 0 [1000, 3071, 1])) (onPort .portR (State.reset.setRef 0 x))
    reply o .portR = [0x0014, 4, 127, 1, 5, 6] := by decide +kernel

/-! ## The Lane Table (sections 2.10 and 9.9) -/

theorem test_mic_frame_queued :
    let x := { boundAs .run with
      lastAccepted := some 3016, input := [quietFrame 3016]
      output := [passThrough (quietFrame 3014), passThrough (quietFrame 3015)] }
    reply (exec (.micFrame .portM (frameCmd 3 3017 7))
      (onPort .portM { busy (withLane x) with epoch := 3016 })) .portM = [0x0020, 2, 2, 2] := by
  decide +kernel

theorem test_mic_frame_counts_skips :
    let x := { boundAs .run with lastAccepted := some 3010 }
    ((after (exec (.micFrame .portM (frameCmd 3 3017 7))
      (onPort .portM { withLane x with epoch := 3016 }))).lane 3).counters.micSkips = 6 := by
  decide +kernel

theorem test_fetch_descriptor :
    let f : OutFrame :=
      { epoch := 500, kind := .cancelled, talk := some .far, gated := true
        samples := Vector.replicate 128 600 }
    let o := exec (.fetch .portM (cmd 3 [])) (onPort .portM (withLane { boundAs .run with output := [f] }))
    (reply o .portM).take 5 = [0x0021, 130, 500, 0x0121, 600]
      ∧ ((after o).lane 3).output = [] := by decide +kernel

theorem test_set_mode_run :
    let x := { boundAs .bypass with lock := true }
    let t := after (exec (.setMode .portM (cmd 3 [1])) (onPort .portM (withLane x)))
    (t.lane 3).state = .run ∧ (t.lane 3).lock = false := by decide

theorem test_set_mode_bypass_flushes :
    let x := { boundAs .run with
      input := [quietFrame 501, quietFrame 502, quietFrame 503]
      output := [passThrough (quietFrame 498), passThrough (quietFrame 499)] }
    let t := after (exec (.setMode .portS (cmd 3 [0])) (onPort .portS (busy (withLane x))))
    (t.lane 3).output.map (fun f => f.epoch) = [499, 501, 502, 503]
      ∧ (t.lane 3).counters.overruns = 1 := by decide +kernel

theorem test_bind_takes_lowest_free :
    let o := exec (.bind .portS (cmd 4 [5, 3])) (onPort .portS (laneAs .run))
    reply o .portS = [0x0023, 0]
      ∧ (after o).store.map[2] = .bound 4 0 2 ∧ (after o).store.map[4] = .bound 4 2 1
      ∧ (after o).store.map[6] = .bound 4 2 2 ∧ (after o).store.map[7] = .free := by decide +kernel

theorem test_unbind :
    let t := after (exec (.unbind .portS (cmd 3 [])) (onPort .portS (laneAs .run)))
    (t.lane 3).state = .unbound ∧ t.store.map[9] = .scrub := by decide +kernel

theorem test_resize_shortens :
    let t := after (exec (.resize .portS (cmd 3 [1])) (onPort .portS (laneAs .bypass)))
    (t.lane 3).tail = some 1 ∧ t.store.map[9] = .scrub ∧ t.store.map[5] = .bound 3 0 0 := by
  decide +kernel

theorem test_reset_lane :
    let x := { boundAs .run with lock := true, input := [quietFrame 2041] }
    let o := exec (.resetLane .portS (cmd 3 [])) (onPort .portS (withLane x))
    reply o .portS = [0x0226, 0] ∧ ((after o).lane 3).state = .clearing
      ∧ (after o).engine.queue = [{ kind := .clear, lane := 3 }] := by decide +kernel

theorem test_lane_status_unbound :
    (reply (exec (.laneStatus .portR (cmd 7 [])) (onPort .portR State.reset)) .portR).take 4
      = [0x0027, 27, 0, 65535] := by decide

/-! ## The Coefficient Store (section 3.9) -/

theorem test_coeff_read_end :
    reply (exec (.coeffRead .portS (cmd 3 [0, 512, 7424])) (onPort .portS (laneAs .bypass))) .portS
      = [0x0330, 3, 0, 512, 7424] := by decide +kernel

theorem test_coeff_write_saturates :
    let m := cmd 3 [0, 256, 2, 0x0089, 0x5440, 0xFF76, 0xABC0]
    let t := after (exec (.coeffWrite .portS m) (onPort .portS (laneAs .bypass)))
    (t.store.readTap 3 0 256).toInt = 8388607 ∧ (t.store.readTap 3 0 257).toInt = -8388608
      ∧ (t.lane 3).counters.coeffSats = 2 := by decide +kernel

theorem test_store_status :
    reply (exec (.storeStatus .portR (cmd 3 [])) (onPort .portR (laneAs .bypass))) .portR
      = [0x0032, 8, 382, 2, 0, 65535, 32, 0, 5, 9] := by decide +kernel

theorem test_scrub_complete :
    let t := after (exec .scrubComplete State.reset)
    t.store.map[0] = .free ∧ t.store.scrub = some 1 := by decide +kernel

theorem test_scrub_start :
    (after (exec .scrubStart { State.reset with store := { Store.reset with scrub := none } })).store.scrub
      = some 0 := by decide +kernel

/-! ## The Filter Engine -/

theorem test_lane_config_clamps :
    reply (exec (.laneConfig .portS (cmd 3 [300, 4, 0])) (onPort .portS (laneAs .run))) .portS
      = [0x0140, 3, 255, 4, 16] := by decide

theorem test_engine_status :
    reply (exec (.engineStatus .portM (cmd 0 [])) (onPort .portM
      (working (some (.clear 3)) [{ kind := .shift 1 (-32), lane := 9 }] (laneAs .clearing)))) .portM
      = [0x0041, 17, 1, 4, 3, 1, 5, 9, 1, 65504, 128, 0, 0, 0, 0, 0, 0, 0, 0] := by decide +kernel

theorem test_pass_start_takes_head :
    let x := { boundAs .run with input := [quietFrame 0, quietFrame 1] }
    let t := after (exec .passStart (withLane x))
    (t.lane 3).inFlight.map (fun f => f.epoch) = some 0
      ∧ (t.lane 3).input.map (fun f => f.epoch) = [1] := by decide +kernel

theorem test_work_at_an_idle_engine_starts_first :
    let t := after (exec (.micFrame .portM (frameCmd 3 0 7))
      (onPort .portM (State.reset.setLane 3 (boundAs .run))))
    let u := after (exec (.saveCheckpoint .portS (cmd 3 [])) (onPort .portS t))
    let v := after (exec .maintenanceStart u)
    (u.lane 3).inFlight.map (fun f => f.epoch) = some 0
      ∧ v.engine.queue = [{ kind := .save, lane := 3 }] ∧ v.passInFlight 3 = true := by
  decide +kernel

theorem test_maintenance_start :
    let t := after (exec .maintenanceStart (working none [{ kind := .clear, lane := 3 }] (laneAs .clearing)))
    t.engine.queue = [] ∧ t.engine.job = some (.clear 3) := by decide +kernel

theorem test_pass_complete :
    let t := after (exec .passComplete (working (some (.pass (tinyPass (boundAs .run)) 0)) [] (laneAs .run)))
    (t.lane 3).output.map (fun f => (f.kind, f.talk)) = [(.cancelled, some .far)]
      ∧ t.engine.passes = 1 ∧ t.engine.job = none := by decide +kernel

theorem test_save_complete :
    let parts := [Vector.replicate 256 7, Vector.replicate 256 8]
    let chains : Chains := (Vector.replicate 3 []).set 0 parts
    let t := after (exec .saveComplete (working (some (.save 3 (boundAs .run) chains 44)) [] (laneAs .run)))
    ((t.lane 3).guard.stack.map fun e => (e.epoch, e.span, e.slots)) = [(44, 2, [0, 1])]
      ∧ (t.checkpoints.slots[1])[0] = 8 := by decide +kernel

theorem test_restore_complete_without_entry :
    let s := working (some (.restore 3 (boundAs .tripped) (Vector.replicate 3 []))) [] (laneAs .tripped)
    let s := { s with store := { s.store with coefs := s.store.coefs.set 5 (Vector.replicate 256 9) } }
    ((after (exec .restoreComplete s)).store.readTap 3 0 10) = 0 := by decide +kernel

theorem test_clear_complete :
    let t := after (exec .clearComplete (working (some (.clear 3)) [] (laneAs .clearing)))
    (t.lane 3).state = .bypass ∧ t.engine.job = none := by decide +kernel

theorem test_shift_complete :
    let old := [zeroPartition.set 3 120, zeroPartition]
    let s := (laneAs .run).setRealign 0 { Realign.reset with target := 3, state := .shifting }
    let t := after (exec .shiftComplete (working (some (.shift 3 0 3 old)) [] s))
    t.store.readTap 3 0 0 = 120 ∧ (t.lane 3).delays[0] = some 3 ∧ (t.realign 0).state = .idle := by
  decide +kernel

/-! ## Talk state, tracking, meter, guard and notices -/

theorem test_talk_config :
    reply (exec (.talkConfig .portS (cmd 3 [12, 40, 65535, 328])) (onPort .portS (laneAs .run))) .portS
      = [0x0150, 4, 12, 31, 0, 328] := by decide

theorem test_talk_status :
    reply (exec (.talkStatus .portM (cmd 3 [])) (onPort .portM (laneAs .run))) .portM
      = [0x0051, 10, 1, 0, 8, 6, 328, 328, 65535, 65535, 65535, 65535] := by decide

theorem test_tracker_config_enables :
    let t := after (exec (.trackerConfig .portS (cmd 0 [1, 4, 4096, 256, 4, 1024, 8, 32]))
      (onPort .portS State.reset))
    (t.tracker 0).state = .disarmed ∧ (t.tracker 0).pilot = 4 := by decide

theorem test_tracker_clear :
    let s := State.reset.setTracker 0 { Tracker.reset with lags := [428, 431], matchCount := 2 }
    let t := after (exec (.trackerClear .portS (cmd 0 [])) (onPort .portS s))
    (t.tracker 0).lags = [] ∧ (t.tracker 0).matchCount = 0 := by decide

theorem test_set_delay_requests_shift :
    let o := exec (.setDelay .portS (cmd 0 [410])) (onPort .portS (laneAs .run))
    reply o .portS = [0x0262, 2, 1, 410]
      ∧ (after o).engine.queue = [{ kind := .shift 0 410, lane := 3 }] := by decide +kernel

theorem test_tracker_status :
    reply (exec (.trackerStatus .portR (cmd 0 [])) (onPort .portR State.reset)) .portR
      = [0x0063, 26, 0, 0, 0, 4096, 256, 4, 1024, 8, 32, 0, 0, 65535, 65535, 65535, 0, 0, 0, 0,
          65535, 65535, 0, 65535, 65535, 0, 0, 0] := by decide

theorem test_meter_config :
    reply (exec (.meterConfig .portS (cmd 3 [6, 12, 5, 2])) (onPort .portS (laneAs .run))) .portS
      = [0x0170, 4, 5, 12, 5, 2] := by decide

theorem test_meter_read_energy_words :
    let x := { boundAs .run with meter := { Meter.reset with
      recent := some { mic := 4920320000, out := 184320000, steps := 5 } } }
    (reply (exec (.meterRead .portR (cmd 3 [])) (onPort .portR (withLane x))) .portR).take 11
      = [0x0071, 27, 1, 1, 9542, 8192, 1, 0, 2812, 32768, 5] := by decide

theorem test_rearm :
    let x := { boundAs .lockout with guard := { Guard.reset with tripCount := 3 } }
    let t := after (exec (.rearm .portS (cmd 3 [])) (onPort .portS (withLane x)))
    (t.lane 3).state = .run ∧ (t.lane 3).guard.tripCount = 0 := by decide

theorem test_save_checkpoint :
    let o := exec (.saveCheckpoint .portS (cmd 3 [])) (onPort .portS (laneAs .bypass))
    reply o .portS = [0x0281, 0] ∧ (after o).engine.queue = [{ kind := .save, lane := 3 }] := by decide

theorem test_drop_checkpoints :
    let x := { boundAs .run with guard := { Guard.reset with lastSave := some 5 } }
    let t := after (exec (.dropCheckpoints .portS (cmd 3 [])) (onPort .portS (withLane x)))
    (t.lane 3).guard.lastSave = none := by decide

theorem test_guard_config_limits_trips :
    let x := { boundAs .lockout with guard := { Guard.reset with tripCount := 4 } }
    let m := cmd 3 [1, 4, 16, 2, 9, 512, 2, 1]
    let t := after (exec (.guardConfig .portS m) (onPort .portS (withLane x)))
    (t.lane 3).guard.tripCount = 3 ∧ (t.lane 3).guard.attempts = 2 := by decide

theorem test_guard_status_unbound :
    (reply (exec (.guardStatus .portR (cmd 11 [])) (onPort .portR State.reset)) .portR).take 4
      = [0x0084, 20, 96, 0] := by decide +kernel

/-- The port of section 10.7 after three raises, the last of a kind not enabled. -/
def threeNotices : State :=
  let s := after (exec (.noticeConfig .portS (cmd 0 [0x0886, 0])) (onPort .portS State.reset))
  ((s.raise .laneTrip 9).raise .refStall 1).raise .checkpointSkipped 2

theorem test_notice_config :
    reply (exec (.noticeConfig .portS (cmd 0 [0x0886, 0])) (onPort .portS State.reset)) .portS
      = [0x0091, 4, 0x0886, 0, 1, 0] := by decide

theorem test_notice_read :
    let o := exec (.noticeRead .portS (cmd 0 [])) (onPort .portS threeNotices)
    (reply o .portS).take 6 = [0x0090, 6, 2, 0, 2, 9]
      ∧ ((after o).port .portS).notices.armed = false
      ∧ ((after o).port .portS).notices.line = .released := by decide

theorem test_notice_arm :
    let s := after (exec (.noticeRead .portS (cmd 0 [])) (onPort .portS threeNotices))
    let o := exec (.noticeArm .portS (cmd 0 [])) (onPort .portS (s.raise .refStall 1))
    reply o .portS = [0x0092, 1, 1] ∧ ((after o).port .portS).notices.line = .asserted := by decide

/-- Port R in PULSE mode with FRAME_EXPIRED enabled, and a frame of lane 3 that the advance expires. -/
def expiring : State :=
  let n := { Notices.reset with enabled := 0x200, mode := .pulse }
  let x := { boundAs .run with input := [quietFrame 68] }
  let s := busy { State.reset.setLane 3 x with epoch := 99 }
  s.setPort .portR { s.port .portR with notices := n }

theorem test_settled_pulse_is_counted :
    let t := after (exec .epochAdvance expiring)
    let u := after (exec (.nop .portS (cmd 0 [])) (onPort .portS t))
    (t.port .portR).notices.pulses = 0 ∧ (u.port .portR).notices.pulses = 1
      ∧ (u.port .portR).notices.line = .released
      ∧ ((after (exec (.frameExpiry 3) t)).port .portR).notices.line = .pulsed := by decide +kernel

/-! ## Witnesses: states and operands that meet the hypotheses of the statements, clause by clause -/

/-- A command that the port's checks pass, whatever the part's state. -/
theorem takes_on {k : Kind} {p : Port} {m : Message} (s : State) (h₁ : m.wellFormed = true)
    (h₂ : openTo k p = true) (h₃ : acceptsLength k m.declared.toNat = true) :
    (onPort p s).takes k p m :=
  ⟨h₁, by simp [onPort, State.setDecoder, State.setPort, State.port, Decoder.awaits, commandWords],
    h₂, h₃⟩

/-- What a command on port `p` acts on. -/
def seen (p : Port) (s : State) : State := (onPort p s).beginEvent

theorem witness_ExecKeepsWaitingCommands :
    ∃ t, exec (.nop .portS (cmd 0 [])) (onPort .portS State.reset) = .next t := ⟨_, rfl⟩

theorem witness_EveryCommandCompletes :
    (Instr.nop .portS (cmd 0 [])).wellFormed = true
      ∧ (Instr.nop .portS { target := 0, declared := 1, payload := [] }).wellFormed = false := by
  decide

theorem witness_PortChecksRefuse :
    ((frameCmd 3 0 0).wellFormed = true
        ∧ ((onPort .portR State.reset).port .portR).decoder.awaits (kindCode .micFrame)
            (frameCmd 3 0 0) = true
        ∧ openTo .micFrame .portR = false)
      ∧ ((cmd 0 [0]).wellFormed = true ∧ openTo .nop .portR = true
        ∧ ((onPort .portR State.reset).port .portR).decoder.awaits (kindCode .nop) (cmd 0 [0]) = true
        ∧ acceptsLength .nop (cmd 0 [0]).declared.toNat = false)
      ∧ (Message.wellFormed { target := 3, declared := 261, payload := [] } = true
        ∧ openTo .coeffWrite .portS = true ∧ acceptsLength .coeffWrite 261 = false)
      ∧ (Kind.laneStatus ∈ laneKinds ∧ 16 ≤ (cmd 16 []).target.toNat)
      ∧ (Kind.refStatus ∈ refKinds ∧ 3 ≤ (cmd 3 []).target.toNat)
      ∧ Kind.nop ∈ zeroKinds ∧ (cmd 1 []).target ≠ 0 := by decide +kernel

theorem witness_RefusalsChangeNothing :
    Kind.nop ≠ .refFrame
      ∧ ((onPort .portS State.reset).port .portS).decoder.awaits (kindCode .nop) (cmd 1 []) = true
      ∧ ∃ t, exec (instrOfKind .nop .portS (cmd 1 [])) (onPort .portS State.reset) = .next t :=
  ⟨by decide, by decide, _, rfl⟩

theorem witness_FormedResponseStands :
    let s := State.reset.setDecoder .portR (.responding [0, 0x0001, 0])
    (s.port .portR).decoder = .responding [0, 0x0001, 0] ∧ isReset .epochAdvance = false
      ∧ (∀ n, Instr.epochAdvance ≠ .responseSent { port := .portR, count := n })
      ∧ Instr.epochAdvance ≠ .responseCut .portR
      ∧ ∃ t, exec .epochAdvance s = .next t :=
  ⟨by decide, by decide, by simp, by decide, _, rfl⟩

/-- A lane whose window holds one frame and whose lock level is 0. -/
def lockable : Lane :=
  { boundAs .run with meter := { Meter.reset with window := 0, windowCode := 0, lockLevel := 0 } }

theorem witness_OnlyOwnersChange :
    (Instr.passStart ≠ .epochAdvance ∧ isReset .passStart = false
        ∧ ∃ t, exec .passStart State.reset = .next t)
      ∧ (let s := working (some (.pass (tinyPass lockable) 0)) [] (withLane lockable);
        (s.lane 3).lock = false ∧ ((after (exec .passComplete s)).lane 3).lock = true)
      ∧ (after (exec .scrubComplete State.reset)).store.map[0] ≠ State.reset.store.map[0]
      ∧ (let s := { laneAs .run with store :=
          { Store.reset with coefs := Store.reset.coefs.set 0 (zeroPartition.set 0 1) } };
        (after (exec .scrubComplete s)).store.coefs[0] ≠ s.store.coefs[0]) :=
  ⟨⟨by decide, by decide, _, rfl⟩, by decide +kernel, by decide +kernel, by decide +kernel⟩

theorem witness_TransactionEventsTable :
    (decodeCommand .portM [0x0100] = none ∧ State.reset.beginEvent.resetLow = false
        ∧ (State.reset.beginEvent.port .portM).decoder = .wait)
      ∧ (((State.reset.setDecoder .portM (.responding [1, 2])).beginEvent.port .portM).decoder
          = .responding (1 :: [2]) ∧ [(2 : Word)].length < 2)
      ∧ ((State.reset.setDecoder .portM .draining).beginEvent.port .portM).decoder = .draining
      ∧ (((seen .portM State.reset).port .portM).decoder = .command []
        ∧ ([] : List Word) ++ [0x0100] ≠ [] ∧ decodeCommand .portM ([] ++ [0x0100]) = none)
      ∧ kindOfCode 0xFF = none ∧ (cmd 0 []).wellFormed = true
      ∧ ((onPort .portM State.reset).port .portM).decoder.awaits 0xFF (cmd 0 []) = true := by
  decide +kernel

theorem witness_NopAnswersPortAndEpoch :
    (onPort .portR State.reset).takes .nop .portR (cmd 0 []) :=
  takes_on _ (by decide) (by decide) (by decide)

theorem witness_ResetPinTable :
    (let s := { State.reset with resetLow := true };
      s.beginEvent.resetLow = true ∧ decodeCommand .portR [] = none)
      ∧ State.reset.beginEvent.store.scrub ≠ none
      ∧ (laneAs .run).beginEvent.store.scrub = none
      ∧ ∃ t, exec .resetNAssert (laneAs .run) = .next t
        ∧ ∃ u, exec .resetNRelease t = .next u ∧ ∃ v, exec .epochAdvance u = .next v :=
  ⟨by decide +kernel, by decide +kernel, by decide +kernel, _, rfl, _, rfl, _, rfl⟩

theorem witness_DeviceResetResetsThePart :
    (onPort .portS (laneAs .run)).takes .deviceReset .portS (cmd 0 []) ∧ (cmd 0 []).target = 0
      ∧ (seen .portS State.reset).store.scrub ≠ none ∧ (seen .portS State.reset).resetLow = false
      ∧ Port.portM ≠ .portS ∧ (cmd 3 [1]).wellFormed = true :=
  ⟨takes_on _ (by decide) (by decide) (by decide), rfl, by decide +kernel, by decide +kernel,
    by decide, rfl⟩

theorem witness_EpochAdvanceCountsOne : (laneAs .tripped).beginEvent.resetLow = false := by decide

/-- REF0 ACTIVE with `g` consecutive gaps, at E = 2 with epoch 0 to resolve; slot 0 has fill `f`. -/
def resolving (g : Nat) (f : Fill) : State :=
  dueAt 2 [.resolve 0] (State.reset.setRef 0 { Reference.reset with
    state := .active, resolution := some 0, consecutiveGaps := g
    ring := Reference.reset.ring.set 0 { Slot.reset with fill := f } })

theorem witness_ResolutionTable :
    (∀ g f, let s := resolving g f
      .resolve 0 ∈ s.due ∧ .onsetAge 0 ∉ s.due ∧ (s.ref 0).state ≠ .inactive
        ∧ (s.ref 0).resolution = some 0 ∧ 0 = epochPlus s.epoch (-((s.ref 0).wait : Int))
        ∧ isAfter 0 (epochPlus s.epoch (-((s.ref 0).wait : Int))) = false)
      ∧ holdsData ((resolving 0 .data).ref 0) 0 = true
      ∧ holdsData ((resolving 2 .none).ref 0) 0 = false
      ∧ (holdsData ((resolving 3 .none).ref 0) 0 = false
        ∧ min 4 (((resolving 3 .none).ref 0).consecutiveGaps + 1) = 4)
      ∧ (let x := waitLowered.ref 0
        let last := epochPlus waitLowered.epoch (-(x.wait : Int))
        .onsetAge 0 ∈ waitLowered.due ∧ .resolve 0 ∈ waitLowered.due ∧ x.state ≠ .inactive
          ∧ x.resolution = some 0 ∧ isAfter 0 last = false ∧ isAfter 4 last = true
          ∧ (last - 0).toNat < 128 ∧ holdsData x 0 = false ∧ holdsData x 3 = false) :=
  ⟨fun _ _ => by simp [resolving, dueAt, State.ref, State.setRef, Reference.reset]; decide,
    by decide +kernel, by decide +kernel, by decide +kernel, by decide +kernel⟩

theorem witness_AgeingRowsTable :
    (.expire 3 ∈ (dueAt 0 [.expire 3] (laneAs .run)).due)
      ∧ (.acceptedAge 3 ∈ (dueAt 0 [.acceptedAge 3] (laneAs .run)).due)
      ∧ (.retryEnd 3 ∈ (dueAt 0 [.retryEnd 3] (laneAs .tripped)).due)
      ∧ (.saveAge 3 ∈ (dueAt 0 [.saveAge 3] (laneAs .run)).due)
      ∧ (.holdEnd 0 ∈ (dueAt 0 [.holdEnd 0] State.reset).due)
      ∧ (.changeAge 0 ∈ (dueAt 0 [.changeAge 0] State.reset).due)
      ∧ (.onsetAge 0 ∈ (dueAt 0 [.onsetAge 0] State.reset).due
        ∧ ((dueAt 0 [.onsetAge 0] State.reset).tracker 0).state ≠ .opened)
      ∧ (let s := dueAt 41 [.onsetAge 0] (State.reset.setTracker 0 { Tracker.reset with
          state := .opened, enabled := true, onset := some { index := 0, epoch := 0 } })
        .onsetAge 0 ∈ s.due ∧ (s.tracker 0).onset = some { index := 0, epoch := 0 }
          ∧ (s.tracker 0).state = .opened) := by decide

theorem witness_DeclareRefTable :
    (∀ p n s, (onPort p s).takes .declareRef p (cmd 0 [n]) ∧ (cmd 0 [n]).namesRef 0)
      ∧ argNat (cmd 0 [2]) 0 = 2 ∧ argNat (cmd 0 [1]) 0 = 1 ∧ argNat (cmd 0 [0]) 0 = 0
      ∧ ((seen .portS State.reset).ref 0).state = .inactive
      ∧ (((seen .portS (refAs .active)).ref 0).state ≠ .inactive
        ∧ ((seen .portS (refAs .active)).realign 0).state = .idle)
      ∧ (let s := (refAs .active).setRealign 0 { Realign.reset with state := .shifting }
        ((seen .portS s).ref 0).state ≠ .inactive ∧ ((seen .portS s).realign 0).state = .shifting)
      ∧ ∃ t, exec (.declareRef .portS (cmd 0 [0])) (onPort .portS (refAs .active)) = .next t :=
  ⟨fun p _ s => ⟨takes_on s rfl (by cases p <;> rfl) rfl, rfl⟩, rfl, rfl, rfl, by decide, by decide,
    by decide, _, rfl⟩

theorem witness_RefFrameTable :
    (∀ e s, (onPort .portR s).takes .refFrame .portR (frameCmd 0 e 1) ∧ (frameCmd 0 e 1).namesRef 0
      ∧ argWord (frameCmd 0 e 1) 0 = e)
      ∧ ((seen .portR State.reset).ref 0).state = .inactive
      ∧ (let u := seen .portR (refAs .active);
        (u.ref 0).state ≠ .inactive ∧ 2 < ahead u.epoch 3 ∧ ahead u.epoch 2 ≤ 2
          ∧ ((u.ref 0).wait : Int) ≤ behind u.epoch 65534 ∧ behind u.epoch 0 < ((u.ref 0).wait : Int)
          ∧ isAfter 0 65535 = true ∧ isAfter 0 0 = false
          ∧ ¬((slotFor (u.ref 0) 2).epoch = 2 ∧ (slotFor (u.ref 0) 2).fill ≠ .none))
      ∧ (let u := seen .portR (resolving 0 .data)
        slotFor (u.ref 0) 0 = { Slot.reset with fill := .data }) := by
  refine ⟨fun e s => ⟨takes_on s ?_ rfl ?_, rfl, rfl⟩, by decide, by decide, by decide +kernel⟩
  · show messageComplete _ = true
    simp [messageComplete, frameCmd, cmd, Config.maxPayload]
  · simp [frameCmd, cmd, acceptsLength]

theorem witness_RefConfigAndStatus :
    (∀ s, (onPort .portS s).takes .refConfig .portS (cmd 2 [4, 1]) ∧ (cmd 2 [4, 1]).namesRef 2)
      ∧ argNat (cmd 2 [4, 1]) 1 = 1 ∧ argNat (cmd 2 [4, 0]) 1 = 0 ∧ 2 ≤ argNat (cmd 2 [4, 2]) 1
      ∧ ∀ s, (onPort .portM s).takes .refStatus .portM (cmd 2 []) ∧ (cmd 2 []).namesRef 2 :=
  ⟨fun s => ⟨takes_on s rfl rfl rfl, rfl⟩, rfl, rfl, by decide,
    fun s => ⟨takes_on s rfl rfl rfl, rfl⟩⟩

theorem witness_HistoryReadReturnsStoredSamples :
    (∀ d n s, (onPort .portR s).takes .historyRead .portR (cmd 0 [1000, d, n])
      ∧ (cmd 0 [1000, d, n]).namesRef 0 ∧ argWord (cmd 0 [1000, d, n]) 1 = d)
      ∧ (0xC000 : Word).toInt = -16384 ∧ (0xBFFF : Word).toInt < -16384
      ∧ (0x3FFF : Word).toInt = 16383 ∧ 16383 < (0x4000 : Word).toInt
      ∧ argNat (cmd 0 [1000, 0, 255]) 2 = 255 ∧ 255 < argNat (cmd 0 [1000, 0, 256]) 2 :=
  ⟨fun _ _ s => ⟨takes_on s rfl rfl rfl, rfl, rfl⟩, by decide, by decide, by decide, by decide, rfl,
    by decide⟩

/-- The engine runs a pass of lane 3, which is in state `st`. -/
def passing (st : LaneState) : State :=
  working (some (.pass (tinyPass (boundAs st)) 0)) [] (laneAs st)

theorem frame_taken (e : Word) (s : State) :
    (onPort .portM s).takes .micFrame .portM (frameCmd 3 e 1) ∧ (frameCmd 3 e 1).names 3
      ∧ argWord (frameCmd 3 e 1) 0 = e := by
  refine ⟨takes_on s ?_ rfl ?_, rfl, rfl⟩
  · show messageComplete _ = true
    simp [messageComplete, frameCmd, cmd, Config.maxPayload]
  · simp [frameCmd, cmd, acceptsLength]

theorem witness_MicFrameRefusals :
    ((seen .portM State.reset).lane 3).state = .unbound
      ∧ ((seen .portM (laneAs .clearing)).lane 3).state = .clearing
      ∧ (let u := seen .portM (laneAs .run);
        (u.lane 3).state ≠ .unbound ∧ (u.lane 3).state ≠ .clearing ∧ 2 < ahead u.epoch 3
          ∧ ahead u.epoch 65527 ≤ 2 ∧ 8 < behind u.epoch 65527)
      ∧ (let u := seen .portM (withLane { boundAs .run with lastAccepted := some 2 })
        ahead u.epoch 2 ≤ 2 ∧ behind u.epoch 2 ≤ 8 ∧ (u.lane 3).lastAccepted = some 2
          ∧ isAfter 2 2 = false)
      ∧ (let u := seen .portM (busy (withLane { boundAs .run with
          input := List.replicate 4 (quietFrame 0) }))
        ahead u.epoch 2 ≤ 2 ∧ (u.lane 3).lastAccepted = none ∧ 4 ≤ (u.lane 3).input.length
          ∧ (u.lane 3).state = .run) := by decide

theorem witness_MicFrameAccepted :
    (let u := seen .portM (withLane { boundAs .run with input := List.replicate 3 (quietFrame 0) });
      (u.lane 3).state = .run ∧ ahead u.epoch 2 ≤ 2 ∧ behind u.epoch 2 ≤ 8
        ∧ (u.lane 3).lastAccepted = none ∧ (u.lane 3).input.length < 4)
      ∧ ((seen .portM (passing .bypass)).lane 3).state = .bypass
      ∧ (seen .portM (passing .bypass)).passInFlight 3 = true
      ∧ ((seen .portM (laneAs .lockout)).lane 3).state = .lockout
      ∧ (seen .portM (laneAs .lockout)).passInFlight 3 = false := by decide

theorem witness_FetchTakesHead :
    (∀ s, (onPort .portM s).takes .fetch .portM (cmd 3 []) ∧ (cmd 3 []).names 3)
      ∧ ((seen .portM State.reset).lane 3).state = .unbound
      ∧ (((seen .portM (laneAs .run)).lane 3).state ≠ .unbound
        ∧ ((seen .portM (laneAs .run)).lane 3).output = [])
      ∧ (let u := seen .portM (withLane { boundAs .clearing with
          output := [passThrough (quietFrame 0)] });
        (u.lane 3).state ≠ .unbound ∧ (u.lane 3).output = passThrough (quietFrame 0) :: []) :=
  ⟨fun s => ⟨takes_on s rfl rfl rfl, rfl⟩, by decide, by decide, by decide, rfl⟩

theorem witness_SetModeTable :
    (∀ n s, (onPort .portS s).takes .setMode .portS (cmd 3 [n]) ∧ (cmd 3 [n]).names 3)
      ∧ argNat (cmd 3 [2]) 0 = 2 ∧ argNat (cmd 3 [1]) 0 = 1 ∧ argNat (cmd 3 [0]) 0 = 0
      ∧ ((seen .portS (laneAs .bypass)).lane 3).state = .bypass
      ∧ ((seen .portS (laneAs .clearing)).lane 3).state = .clearing
      ∧ ((seen .portS State.reset).lane 3).state = .unbound
      ∧ (((seen .portS (passing .run)).lane 3).state = .run
        ∧ (seen .portS (passing .run)).passInFlight 3 = true)
      ∧ (((seen .portS (laneAs .lockout)).lane 3).state = .lockout
        ∧ (seen .portS (laneAs .lockout)).passInFlight 3 = false
        ∧ ((seen .portS (laneAs .lockout)).lane 3).output.length ≤ 4) :=
  ⟨fun _ s => ⟨takes_on s rfl rfl rfl, rfl⟩, rfl, rfl, rfl, by decide, by decide, by decide,
    by decide, by decide⟩

theorem witness_BindTable :
    (∀ a b s, (onPort .portS s).takes .bind .portS (cmd 4 [a, b]) ∧ (cmd 4 [a, b]).names 4
      ∧ argNat (cmd 4 [a, b]) 0 = a.toNat ∧ argNat (cmd 4 [a, b]) 1 = b.toNat)
      ∧ (let u := seen .portS (laneAs .run);
        (u.lane 4).state = .unbound ∧ (u.lane 3).state ≠ .unbound
          ∧ 32 * ([0, 1, 2].filter fun r : RefId => (7 : Nat).testBit r.val).length
            ≤ ((List.finRange 384).filter fun p : PartId => u.store.map[p] = .free).length)
      ∧ ((List.finRange 384).filter fun p : PartId =>
          (seen .portS State.reset).store.map[p] = .free).length < 1 :=
  ⟨fun _ _ s => ⟨takes_on s rfl rfl rfl, rfl, rfl, rfl⟩, by decide +kernel, by decide +kernel⟩

theorem witness_UnbindReleasesLane :
    (∀ s, (onPort .portS s).takes .unbind .portS (cmd 3 []) ∧ (cmd 3 []).names 3)
      ∧ ((seen .portS State.reset).lane 3).state = .unbound
      ∧ (((seen .portS (passing .run)).lane 3).state ≠ .unbound
        ∧ ∃ j, (seen .portS (passing .run)).engine.job = some j ∧ j.lane = 3)
      ∧ (((seen .portS (laneAs .run)).lane 3).state ≠ .unbound
        ∧ (seen .portS (laneAs .run)).engine.job = none
        ∧ (seen .portS (laneAs .run)).engine.queue = []) :=
  ⟨fun s => ⟨takes_on s rfl rfl rfl, rfl⟩, by decide, ⟨by decide, _, rfl, rfl⟩, by decide⟩

theorem witness_ResizeTable :
    (∀ n s, (onPort .portS s).takes .resize .portS (cmd 3 [n]) ∧ (cmd 3 [n]).names 3
      ∧ argNat (cmd 3 [n]) 0 = n.toNat)
      ∧ 32 < (33 : Word).toNat ∧ ((seen .portS (laneAs .run)).lane 3).state ≠ .bypass
      ∧ (∃ j, (seen .portS (passing .bypass)).engine.job = some j ∧ j.lane = 3)
      ∧ (let u := seen .portS (laneAs .bypass);
        (u.lane 3).state = .bypass ∧ u.engine.job = none ∧ (u.lane 3).tail = some 2
          ∧ 2 < (32 : Word).toNat ∧ (1 : Word).toNat < 2
          ∧ 30 * (boundRefs (u.lane 3)).length
            ≤ ((List.finRange 384).filter fun p : PartId => u.store.map[p] = .free).length) :=
  ⟨fun _ s => ⟨takes_on s rfl rfl rfl, rfl, rfl⟩, by decide, by decide, ⟨_, rfl, rfl⟩,
    by decide +kernel⟩

theorem witness_ResetLaneClearsLane :
    (∀ s, (onPort .portS s).takes .resetLane .portS (cmd 3 []) ∧ (cmd 3 []).names 3)
      ∧ ((seen .portS State.reset).lane 3).state = .unbound
      ∧ ((seen .portS (laneAs .clearing)).lane 3).state ≠ .unbound :=
  ⟨fun s => ⟨takes_on s rfl rfl rfl, rfl⟩, by decide, by decide⟩

theorem witness_LaneStatusReports :
    (∀ s, (onPort .portM s).takes .laneStatus .portM (cmd 15 []) ∧ (cmd 15 []).names 15)
      ∧ ((seen .portM State.reset).lane 15).state = .unbound
      ∧ ((seen .portM (laneAs .run)).lane 3).state ≠ .unbound :=
  ⟨fun s => ⟨takes_on s rfl rfl rfl, rfl⟩, by decide, by decide⟩

theorem witness_CoeffReadMovesTaps :
    (∀ r a n s, (onPort .portR s).takes .coeffRead .portR (cmd 3 [r, a, n])
      ∧ (cmd 3 [r, a, n]).names 3 ∧ argNat (cmd 3 [r, a, n]) 0 = r.toNat
      ∧ argNat (cmd 3 [r, a, n]) 1 = a.toNat ∧ argNat (cmd 3 [r, a, n]) 2 = n.toNat)
      ∧ 8192 < (8193 : Word).toNat ∧ (8192 : Word).toNat ≤ 8192
      ∧ ((seen .portR State.reset).lane 3).state = .unbound
      ∧ (let x := (seen .portR (laneAs .run)).lane 3
        x.state ≠ .unbound ∧ 1 ∉ boundRefs x ∧ 0 ∈ boundRefs x ∧ x.tail = some 2
          ∧ 256 * 2 ≤ (512 : Word).toNat ∧ (511 : Word).toNat < 256 * 2) :=
  ⟨fun _ _ _ s => ⟨takes_on s rfl rfl rfl, rfl, rfl, rfl, rfl⟩, by decide, by decide, by decide,
    by decide⟩

theorem witness_CoeffWriteTable :
    (∀ r a s, (onPort .portS s).takes .coeffWrite .portS (cmd 3 [r, a, 1, 0, 5])
      ∧ (cmd 3 [r, a, 1, 0, 5]).names 3 ∧ argNat (cmd 3 [r, a, 1, 0, 5]) 0 = r.toNat
      ∧ argNat (cmd 3 [r, a, 1, 0, 5]) 1 = a.toNat
      ∧ (cmd 3 [r, a, 1, 0, 5]).payload.length = 3 + 2 * min 1 128)
      ∧ (cmd 3 [0, 0, 2, 0, 5]).payload.length ≠ 3 + 2 * min 2 128
      ∧ ((seen .portS State.reset).lane 3).state = .unbound
      ∧ ((seen .portS (laneAs .run)).lane 3).state ≠ .bypass
      ∧ (∃ j, (seen .portS (passing .bypass)).engine.job = some j ∧ j.lane = 3)
      ∧ (let u := seen .portS (laneAs .bypass);
        (u.lane 3).state = .bypass ∧ 0 ∈ boundRefs (u.lane 3) ∧ 1 ∉ boundRefs (u.lane 3)
          ∧ (u.lane 3).tail = some 2 ∧ (511 : Word).toNat < 256 * 2 ∧ 256 * 2 ≤ (512 : Word).toNat
          ∧ u.engine.job = none ∧ { kind := .clear, lane := 3 } ∉ u.engine.queue
          ∧ (u.store.partAt 3 0 0).isSome ∧ (u.store.partAt 3 0 1).isSome) :=
  ⟨fun _ _ s => ⟨takes_on s rfl rfl (by simp [cmd, acceptsLength]), rfl, rfl, rfl, rfl⟩, by decide,
    by decide, by decide, ⟨_, rfl, rfl⟩, by decide +kernel⟩

theorem witness_StoreStatusCountsThePool :
    ∀ s, (onPort .portM s).takes .storeStatus .portM (cmd 0 []) ∧ (cmd 0 []).names 0 :=
  fun s => ⟨takes_on s rfl rfl rfl, rfl⟩

theorem witness_ScrubberTakesLowest :
    (let w := ({ State.reset with store := { Store.reset with scrub := none } } : State).beginScrub;
      w.resetLow = false ∧ w.store.scrub = none)
      ∧ ({ State.reset with scrubAbandoned := true } : State).scrubAbandoned = true
      ∧ State.reset.beginEvent.store.scrub = some 0 ∧ State.reset.scrubAbandoned = false := by
  decide +kernel

theorem witness_LaneTuningStored :
    (∀ s, (onPort .portS s).takes .laneConfig .portS (cmd 3 [255, 16, 31]))
      ∧ (∀ s, (onPort .portS s).takes .talkConfig .portS (cmd 3 [16, 31, 32767, 32767]))
      ∧ (∀ s, (onPort .portS s).takes .meterConfig .portS (cmd 3 [5, 31, 31, 7]))
      ∧ (cmd 3 [255, 16, 31]).names 3 ∧ (cmd 3 [16, 31, 32767, 32767]).names 3
      ∧ (cmd 3 [5, 31, 31, 7]).names 3 :=
  ⟨fun s => takes_on s rfl rfl rfl, fun s => takes_on s rfl rfl rfl, fun s => takes_on s rfl rfl rfl,
    rfl, rfl, rfl⟩

theorem witness_EngineStatusReports :
    ∀ s, (onPort .portR s).takes .engineStatus .portR (cmd 0 []) ∧ (cmd 0 []).target = 0 :=
  fun s => ⟨takes_on s rfl rfl rfl, rfl⟩

theorem witness_PassStartTakesOldestLane :
    let u := (withLane { boundAs .run with input := [quietFrame 0] }).beginStart
    u.engine.job = none ∧ u.engine.queue = [] ∧ u.ready 3 = true := by decide

/-- A checkpoint of lane 3 that holds slot 0. -/
def oneSlot : Checkpoint :=
  { sequence := 0, epoch := 0, steps := none, delays := (boundAs .run).delays, span := 1, slots := [0] }

theorem witness_MaintenanceStartTakesOldest :
    (let u := (working none [{ kind := .clear, lane := 3 }] (laneAs .clearing)).beginStart;
      u.engine.job = none ∧ u.engine.queue = { kind := .clear, lane := 3 } :: [])
      ∧ (let e : MaintEntry := { kind := .restore, lane := 3 }
        let x := { boundAs .tripped with guard := { Guard.reset with stack := [oneSlot] } }
        let u := (working none [e] (withLane x)).beginStart
        u.engine.job = none ∧ u.engine.queue = e :: []
          ∧ (u.lane 3).guard.stack = oneSlot :: [] ∧ (boundRefs (u.lane 3))[0]? = some 0) := by
  decide

theorem witness_PassCompletionLandsResults :
    ((passing .run).beginEvent.engine.job = some (.pass (tinyPass (boundAs .run)) 0)
        ∧ ((passing .run).beginEvent.lane 3).state ≠ .clearing)
      ∧ ((∀ st, (passing st).beginEvent.engine.job = some (.pass (tinyPass (boundAs st)) 0))
        ∧ ∀ st ∈ [LaneState.bypass, .lockout], ((passing st).beginEvent.lane 3).state ≠ .clearing
          ∧ ((passing st).beginEvent.lane 3).output.length ≤ 4
          ∧ ((after (exec .passComplete (passing st))).lane 3).state = st)
      ∧ (passing .clearing).beginEvent.engine.job = some (.pass (tinyPass (boundAs .clearing)) 0)
      ∧ ((passing .clearing).beginEvent.lane 3).state = .clearing :=
  ⟨⟨rfl, by decide⟩, ⟨fun _ => rfl, by decide +kernel⟩, rfl, by decide⟩

theorem witness_UpdatesOfAPass :
    16 ≤ (boundAs .run).regularize
      ∧ ({ tinyPass (boundAs .run) with record := boundAs .run } : PassInputs).record.cursor
        < ({ tinyPass (boundAs .run) with record := boundAs .run } : PassInputs).positions := by
  decide

theorem witness_ClearCompletionZeroesChains :
    (working (some (.clear 3)) [] (laneAs .clearing)).beginEvent.engine.job = some (.clear 3) := rfl

theorem witness_ShiftCompletionMovesChain :
    let u := (working (some (.shift 3 0 (-3) [zeroPartition, zeroPartition])) []
      ((laneAs .run).setRealign 0 { Realign.reset with state := .shifting })).beginEvent
    u.engine.job = some (.shift 3 0 (-3) [zeroPartition, zeroPartition])
      ∧ (u.store.partAt 3 0 0).isSome ∧ (u.store.partAt 3 0 1).isSome
      ∧ u.engine.queue = [] ∧ (u.realign 0).state = .shifting ∧ (u.realign 0).proposal = none
      ∧ (u.realign 1).state = .idle
      ∧ ({ kind := .shift 1 2, lane := 4 } : MaintEntry).isShiftOf 1 = true :=
  ⟨rfl, by decide +kernel, by decide +kernel, rfl, rfl, rfl, rfl, rfl⟩

theorem witness_SaveCompletionTable :
    (let parts := [zeroPartition, zeroPartition]
      let chains : Chains := (Vector.replicate 3 []).set 0 parts
      let u := (working (some (.save 3 (boundAs .run) chains 44)) [] (laneAs .run)).beginEvent
      u.engine.job = some (.save 3 (boundAs .run) chains 44) ∧ (u.lane 3).guard.stack.length < 4
        ∧ 2 ≤ ((List.finRange 96).filter fun i : SlotId => u.checkpoints.free[i]).length
        ∧ ((boundRefs (boundAs .run)).flatMap fun r => (chains[r]).take 2).length = 2)
      ∧ (let x := { boundAs .run with guard := { Guard.reset with stack := [oneSlot] } }
        let u := ({ working (some (.save 3 x (Vector.replicate 3 []) 44)) [] (withLane x) with
          checkpoints := { slots := CheckpointStore.reset.slots, free := Vector.replicate 96 false } }
            : State).beginEvent
        ((u.lane 3).guard.stack.flatMap fun c => c.slots) = [0] ∧ u.checkpoints.free[0] = false
          ∧ ((List.finRange 96).filter fun i : SlotId => u.checkpoints.free[i]).length + 1
            < min x.guard.span (x.tail.getD 0) * (boundRefs x).length)
      ∧ (let x := { boundAs .run with guard := { Guard.reset with
          stack := [{ oneSlot with slots := [1, 2] }, oneSlot, { oneSlot with slots := [3] }] } }
        let parts := [zeroPartition, zeroPartition]
        let chains : Chains := (Vector.replicate 3 []).set 0 parts
        let u := ({ working (some (.save 3 x chains 44)) [] (withLane x) with
          checkpoints := { slots := CheckpointStore.reset.slots, free := Vector.replicate 96 false } }
            : State).beginEvent
        u.engine.job = some (.save 3 x chains 44) ∧ (u.lane 3).guard.stack.length ≤ 4
          ∧ 2 ≤ ((List.finRange 96).filter fun i : SlotId => u.checkpoints.free[i]
              || (u.lane 3).guard.stack.any fun c => c.slots.contains i).length
          ∧ ((boundRefs x).flatMap fun r => (chains[r]).take 2).length = 2) :=
  ⟨⟨rfl, by decide, by decide +kernel, by decide⟩, by decide +kernel,
    rfl, by decide, by decide +kernel, by decide⟩

theorem witness_RestoreCompletionWritesChains :
    let job := fun x : Lane => Job.restore 3 x (Vector.replicate 3 [])
    let u := fun x : Lane => (working (some (job x)) [] (withLane x)).beginEvent
    let x := boundAs .tripped
    let y := { x with guard := { x.guard with stack := [oneSlot] } }
    ((u x).engine.job = some (job x) ∧ x.guard.stack = [])
      ∧ ((u y).engine.job = some (job y) ∧ y.guard.stack = oneSlot :: []
        ∧ ((u y).lane 3).guard.stack = oneSlot :: [])
      ∧ boundRefs x = [0] ∧ x.tail = some 2 ∧ ((u x).store.partAt 3 0 0).isSome
      ∧ ((u x).store.partAt 3 0 1).isSome ∧ ((u y).store.partAt 3 0 0).isSome
      ∧ ((u y).store.partAt 3 0 1).isSome :=
  ⟨⟨rfl, rfl⟩, ⟨rfl, rfl, rfl⟩, by decide, rfl, by decide +kernel, by decide +kernel,
    by decide +kernel, by decide +kernel⟩

theorem witness_TalkStateTable :
    (detect Talk.reset 1000 328).detected = true
      ∧ (detect Talk.reset 0 328).detected = false ∧ Talk.reset.state ≠ .double
      ∧ (let t := { Talk.reset with state := .double, hangover := 1 }
        (detect t 0 327).detected = false ∧ t.state = .double ∧ 0 < t.hangover) := by decide

theorem witness_LaneReadersReport :
    (∀ s, (onPort .portR s).takes .talkStatus .portR (cmd 3 []))
      ∧ (∀ s, (onPort .portR s).takes .meterRead .portR (cmd 3 []))
      ∧ (∀ s, (onPort .portR s).takes .guardStatus .portR (cmd 3 [])) ∧ (cmd 3 []).names 3 :=
  ⟨fun s => takes_on s rfl rfl rfl, fun s => takes_on s rfl rfl rfl, fun s => takes_on s rfl rfl rfl,
    rfl⟩

theorem witness_MeterWindowTable :
    (1 ≠ 4 ^ 2) ∧ (1 = 4 ^ lockable.meter.window)
      ∧ lockable.lock = false ∧ lockable.meter.lockLevel ≤ 0 ∧ 2 < Meter.reset.lowLevel
      ∧ (let x := { boundAs .run with lock := true }
        x.state = .run ∧ x.lock = true ∧ Guard.reset.saveLevel ≤ 9 ∧ Guard.reset.autoSave = true
          ∧ x.guard.lastSave = none ∧ (State.reset.engine.queue = [])) := by decide

theorem witness_TripTable :
    (boundAs .bypass).state ≠ .run ∧ (boundAs .run).state = .run
      ∧ bitLength 0 + Guard.reset.margin < bitLength 2
      ∧ ¬(bitLength 1 + Guard.reset.margin < bitLength 2)
      ∧ Guard.reset.divergence + 1 < Guard.reset.hold
      ∧ ({ Guard.reset with divergence := 3 } : Guard).hold ≤ 3 + 1
      ∧ 1 ≤ Guard.reset.attempts ∧ ({ Guard.reset with attempts := 0 } : Guard).attempts < 1 := by
  decide

theorem witness_GuardCommandsTable :
    (∀ s, (onPort .portS s).takes .rearm .portS (cmd 3 []))
      ∧ (∀ s, (onPort .portS s).takes .saveCheckpoint .portS (cmd 3 []))
      ∧ (∀ s, (onPort .portS s).takes .dropCheckpoints .portS (cmd 3 [])) ∧ (cmd 3 []).names 3
      ∧ ((seen .portS State.reset).lane 3).state = .unbound
      ∧ ((seen .portS (laneAs .run)).lane 3).state ≠ .unbound
      ∧ { kind := .save, lane := 3 }
        ∈ (seen .portS (working (some (.clear 9)) [{ kind := .save, lane := 3 }]
          (laneAs .run))).engine.queue
      ∧ (∀ a s, (onPort .portS s).takes .guardConfig .portS (cmd 3 [1, 4, 16, 3, 9, 512, 2, a])
        ∧ argNat (cmd 3 [1, 4, 16, 3, 9, 512, 2, a]) 7 = a.toNat)
      ∧ (cmd 3 [1, 4, 16, 3, 9, 512, 2, 1]).names 3 :=
  ⟨fun s => takes_on s rfl rfl rfl, fun s => takes_on s rfl rfl rfl, fun s => takes_on s rfl rfl rfl,
    rfl, by decide, by decide, by decide, fun _ s => ⟨takes_on s rfl rfl rfl, rfl⟩, rfl⟩

theorem witness_OnsetTable :
    let armed : Tracker := { Tracker.reset with state := .armed, enabled := true, quietCount := 4 }
    Tracker.reset.state = .off ∧ armed.state = .armed ∧ 255 < Tracker.reset.quietLevel
      ∧ Tracker.reset.quietLevel ≤ 256
      ∧ armed.refLevel ≤ (((silence.set 37 0x1000)[(37 : Fin 128)]).toInt).natAbs
      ∧ ∀ j : Fin 128, j < 37 → ¬armed.refLevel ≤ (((silence.set 37 0x1000)[j]).toInt).natAbs := by
  decide +kernel

theorem witness_PilotScanTable :
    (let o : Onset := { index := 0, epoch := 0 };
      isAfter o.epoch 65535 = true ∧ isAfter o.epoch 8 = false
        ∧ (BitVec.ofNat 23 (128 * 8 + 127) - o.index : BitVec 23).toInt = 1151
        ∧ 1152 ≤ (BitVec.ofNat 23 (128 * 9 + 127) - o.index : BitVec 23).toInt)
      ∧ Tracker.reset.state ≠ .opened
      ∧ (let t : Tracker := { Tracker.reset with
          state := .opened, enabled := true, onset := some { index := 0, epoch := 0 } }
        t.state = .opened ∧ t.onset = some { index := 0, epoch := 0 }
          ∧ t.micLevel ≤ ((0x0400 : Sample).toInt).natAbs)
      ∧ ([] : List Nat).length < 3 ∧ [428, 431, 425] = [] ++ [428, 431, 425]
      ∧ [428, 431, 425].Perm [425, 428, 431] ∧ 431 - 425 ≤ Tracker.reset.tolerance := by decide

theorem witness_SetDelayTable :
    (∀ d s, (onPort .portS s).takes .setDelay .portS (cmd 0 [d]) ∧ (cmd 0 [d]).namesRef 0)
      ∧ ((seen .portS (State.reset.setRealign 0 { Realign.reset with state := .shifting })).realign
          0).state = .shifting
      ∧ (let u := seen .portS State.reset;
        (u.realign 0).state = .idle ∧ 0 = (u.realign 0).target ∧ 1023 ≠ (u.realign 0).target
          ∧ ∀ l, 0 ∉ boundRefs (u.lane l))
      ∧ (∃ l, 0 ∈ boundRefs ((seen .portS (laneAs .run)).lane l))
      ∧ (let x := { Realign.reset with target := 410, lastChange := some (.up, 5102) }
        x.state = .idle ∧ x.lastChange = some (.up, 5102) ∧ Direction.up = .up ∧ 395 < x.target
          ∧ 425 ≠ x.target ∧ ¬(425 < x.target) ∧ Direction.up ≠ .down) :=
  ⟨fun _ s => ⟨takes_on s rfl rfl rfl, rfl⟩, by decide, by decide, ⟨3, by decide⟩, by decide⟩

theorem witness_TrackerCommandsTable :
    (∀ a b s, (onPort .portS s).takes .trackerConfig .portS
        (cmd 0 [a, b, 4096, 256, 4, 1024, 8, 32])
      ∧ argNat (cmd 0 [a, b, 4096, 256, 4, 1024, 8, 32]) 0 = a.toNat
      ∧ argNat (cmd 0 [a, b, 4096, 256, 4, 1024, 8, 32]) 1 = b.toNat
      ∧ (cmd 0 [a, b, 4096, 256, 4, 1024, 8, 32]).namesRef 0)
      ∧ 2 ≤ (2 : Word).toNat ∧ 16 ≤ (16 : Word).toNat ∧ (15 : Word).toNat = (15 : LaneId).val
      ∧ (∀ s, (onPort .portS s).takes .trackerClear .portS (cmd 0 []))
      ∧ (∀ s, (onPort .portM s).takes .trackerStatus .portM (cmd 0 [])) ∧ (cmd 0 []).namesRef 0 :=
  ⟨fun _ _ s => ⟨takes_on s rfl rfl rfl, rfl, rfl, rfl⟩, by decide, by decide, by decide,
    fun s => takes_on s rfl rfl rfl, fun s => takes_on s rfl rfl rfl, rfl⟩

theorem witness_RaiseEntersEnabledPorts :
    Notices.reset.enabled.getLsbD (noticePriority .laneTrip - 1) = false
      ∧ (let n := (threeNotices.port .portS).notices
        n.enabled.getLsbD (noticePriority .laneTrip - 1) = true
          ∧ { kind := .laneTrip, source := 9 } ∈ n.pending
          ∧ { kind := .laneTrip, source := 8 } ∉ n.pending ∧ n.mode = .level) := by decide

theorem witness_NoticeCommandsTable :
    (∀ s, (onPort .portR s).takes .noticeRead .portR (cmd 0 []))
      ∧ (∀ s, (onPort .portR s).takes .noticeArm .portR (cmd 0 []))
      ∧ (∀ a b s, (onPort .portR s).takes .noticeConfig .portR (cmd 0 [a, b])
        ∧ argNat (cmd 0 [a, b]) 0 = a.toNat ∧ argNat (cmd 0 [a, b]) 1 = b.toNat
        ∧ (cmd 0 [a, b]).target = 0)
      ∧ (0x0FFF : Word).toNat < 4096 ∧ 4096 ≤ (0x1000 : Word).toNat ∧ (cmd 0 []).target = 0 :=
  ⟨fun s => takes_on s rfl rfl rfl, fun s => takes_on s rfl rfl rfl,
    fun _ _ s => ⟨takes_on s rfl rfl rfl, rfl, rfl, rfl⟩, by decide, by decide, rfl⟩

/-- One command waits after reset: for the statements that every step keeps an invariant. -/
theorem witness_InvariantsKept :
    let s := { State.reset with pending := [.epochAdvance] };
    (s.refsOk ∧ s.trackersOk ∧ s.store.ok ∧ s.engine.ok ∧ s.noticesOk ∧ s.realignsOk)
      ∧ ∃ t, step s = .next t := by
  refine ⟨⟨?_, ?_, ?_, ?_, ?_, ?_, ?_⟩, _, rfl⟩
  · intro r; unfold Reference.ok; revert r; decide
  · intro r; unfold Tracker.ok; revert r; decide
  · unfold Store.ok; decide +kernel
  · unfold Engine.ok; decide
  · intro p; unfold Notices.ok; cases p <;> decide
  · intro r; unfold State.realignOk
    refine ⟨?_, ?_, ?_, ?_, ?_⟩
    · revert r; decide
    · revert r; decide
    · intro d o h; revert r; simp [State.reset, State.realign, Realign.reset]
    · revert r; decide
    · revert r; decide
  · refine ⟨?_, ?_, ?_, ?_⟩
    · intro l; unfold Lane.ok; revert l; decide
    · intro e he; simp [State.reset, Engine.reset] at he
    · intro j hj; simp [State.reset, Engine.reset] at hj
    · intro l hl; simp [State.reset] at hl

theorem witness_CommandWordsReadBack :
    messageComplete (cmd 3 []) = true ∧ messageComplete (frameCmd 3 0 0) = true
      ∧ messageComplete { target := 3, declared := 65535, payload := [] } = true
      ∧ kindOfCode 0x02 = none := by decide +kernel

end Sys2Proof.Tests
end

section
/-! SUPPORT. What every step makes of a property of the state: `takeCommand` and the target forms, said
once for any property that the beginning of an event, the owner and the response keep. -/

namespace Sys2Proof.Machine

/-! ## A property kept by a command -/

theorem onRef_after {P : State → Prop} {m : Message} {s : State} {f : RefId → Reply} (h0 : P s)
    (h : ∀ r, P (f r).after) : P (onRef m s f).after := by
  rw [onRef]
  split
  · exact h0
  · exact h _

theorem onLane_after {P : State → Prop} {m : Message} {s : State} {f : LaneId → Reply} (h0 : P s)
    (h : ∀ l, P (f l).after) : P (onLane m s f).after := by
  rw [onLane]
  split
  · exact h0
  · exact h _

theorem onBoundLane_after {P : State → Prop} {m : Message} {s : State} {f : LaneId → Reply}
    (h0 : P s) (h : ∀ l, P (f l).after) : P (onBoundLane m s f).after := by
  refine onLane_after h0 fun l => ?_
  split
  · exact h0
  · exact h l

theorem onZero_after {P : State → Prop} {m : Message} {s : State} {a : Reply} (h0 : P s)
    (h : P a.after) : P (onZero m s a).after := by
  rw [onZero]
  split
  · exact h
  · exact h0

/-- A property of `s` that the beginning of an event, the owner's effect and every response keep holds
after the command. -/
theorem takeCommand_after {P : State → Prop} {k : Kind} {p : Port} {m : Message} {s t : State}
    {owner : State → Reply} (h : takeCommand k p m s owner = .next t) (hs : P s)
    (hu : P s.beginEvent) (ho : P (owner s.beginEvent).after)
    (hr : ∀ u c st ws, P u → P (u.respond p c st ws)) : P t := by
  obtain ⟨-, rfl⟩ | ⟨-, st, -, rfl⟩ | ⟨-, rfl⟩ := takeCommand_next h
  · exact hs
  · exact hr _ _ _ _ hu
  · exact hr _ _ _ _ ho

end Sys2Proof.Machine
end

section
/-! SUPPORT. The reference records are as R2 says and the tracker records as R95 says: the operations on
one record, then the operations on the state, then every step. -/

namespace Sys2Proof.Machine

/-! ## One reference record (R2) -/

theorem Reference.ok_reset : Reference.reset.ok := by
  simp [Reference.ok, Reference.reset]

/-- An activated reference has a resolution point and no gap counted (R8). -/
theorem Reference.ok.activated {x : Reference} (h : x.ok) (now : Epoch) : (activate x now).ok := by
  obtain ⟨hlo, hhi, -⟩ := h
  simp [Reference.ok, activate, hlo, hhi]

/-- A deactivated reference has no resolution point (R9). -/
theorem Reference.ok.deactivated {x : Reference} (h : x.ok) : (deactivate x).ok := by
  obtain ⟨hlo, hhi, hgaps, hcont, hor, -⟩ := h
  simp [Reference.ok, deactivate, hlo, hhi, hgaps, hcont, hor]

/-- An accepted frame ends a stall and the run of gaps (R11, R14). -/
theorem Reference.ok.frameAccepted {x : Reference} (h : x.ok) (e : Epoch) (f : Frame) :
    (acceptFrame x e f).ok := by
  obtain ⟨hlo, hhi, -, -, -, hres, -⟩ := h
  cases hx : x.state <;> simp_all [Reference.ok, acceptFrame]

/-- The record a gap leaves, an ACTIVE reference with four gaps in a row STALLED (R12, R13). -/
theorem Reference.ok.gapRecorded {x : Reference} (h : x.ok) (p : Epoch) :
    (let y := recordGap x p
      if y.state = .active ∧ y.consecutiveGaps = 4 then { y with state := .stalled } else y).ok := by
  obtain ⟨hlo, hhi, -, -, -, hres, hstalled, -⟩ := h
  have hle : (recordGap x p).consecutiveGaps ≤ 4 := Nat.min_le_left _ _
  dsimp only
  split
  · rename_i hstall
    obtain ⟨hactive, hfour⟩ := hstall
    have hstate : x.state = .active := hactive
    exact ⟨hlo, hhi, hle, Nat.zero_le _, .inr rfl, by simpa [recordGap, hstate] using hres, fun _ => hfour,
      by simp⟩
  · rename_i hgo
    refine ⟨hlo, hhi, hle, Nat.zero_le _, .inr rfl, hres, fun hs => ?_, fun ha => ?_⟩
    · have hfour : x.consecutiveGaps = 4 := hstalled hs
      simp [recordGap, hfour]
    · exact lt_of_le_of_ne hle fun hfour => hgo ⟨ha, hfour⟩

/-- A resolution point given to a reference that is not INACTIVE (R12). -/
theorem Reference.ok.withResolution {x : Reference} (h : x.ok) (hx : x.state ≠ .inactive)
    (n : Epoch) : ({ x with resolution := some n } : Reference).ok := by
  obtain ⟨hlo, hhi, hgaps, hcont, hor, -, hst, hact⟩ := h
  exact ⟨hlo, hhi, hgaps, hcont, hor, by simpa using hx, hst, hact⟩

/-- REF CONFIG stores a wait of 1 to 4 and touches no other field that R2 bounds (R16). -/
theorem Reference.ok.waitConfigured {x : Reference} (h : x.ok) {w : Nat} (hlo : 1 ≤ w) (hhi : w ≤ 4)
    (clear : Bool) : (configureRef x w clear).ok := by
  obtain ⟨-, -, h⟩ := h
  cases clear <;> exact ⟨hlo, hhi, h⟩

/-- A tuning value lies in its range (R150). -/
theorem tuned_mem (m : Message) (n : Nat) {lo hi : Nat} (h : lo ≤ hi) :
    lo ≤ tuned m n lo hi ∧ tuned m n lo hi ≤ hi := by
  rw [tuned_eq]
  omega

/-! ## One tracker record (R95) -/

theorem Tracker.ok_reset : Tracker.reset.ok := by
  simp [Tracker.ok, Tracker.reset]

/-- A tracker that is not OFF may be DISARMED (R97 to R100). -/
theorem Tracker.ok.disarmed {t : Tracker} (h : t.ok) (hs : t.state ≠ .off) : (disarm t).ok := by
  obtain ⟨hoff, -, hlags, -⟩ := h
  refine ⟨?_, by simp [disarm], hlags, by simp [disarm], by simp [disarm]⟩
  simpa [disarm] using hoff.not.mp hs

theorem Tracker.ok.progressDiscarded {t : Tracker} (h : t.ok) : (discardProgress t).ok := by
  rw [discardProgress]
  split
  · exact h
  · exact h.disarmed ‹_›

/-- The counts of matches and misses are free (R95). -/
theorem Tracker.ok.withMisses {t : Tracker} (h : t.ok) (c : Counter) :
    ({ t with missCount := c } : Tracker).ok := h

/-- A lag list of at most 4 joined to the record, with the count of matches (R101). -/
theorem Tracker.ok.withLags {t : Tracker} (h : t.ok) {lags : List Nat} (hl : lags.length ≤ 4)
    (c : Counter) : ({ t with lags := lags, matchCount := c } : Tracker).ok := by
  obtain ⟨hoff, honset, -, hrest⟩ := h
  exact ⟨hoff, honset, hl, hrest⟩

theorem Tracker.ok.lags_length {t : Tracker} (h : t.ok) : t.lags.length ≤ 4 := h.2.2.1

theorem length_pushLag {lags : List Nat} (h : lags.length ≤ 4) (lag : Nat) :
    (pushLag lags lag).length ≤ 4 := by
  rw [pushLag, List.length_append, List.length_singleton]
  split
  · simp only [List.length_drop]
    omega
  · rename_i hshort
    simp only [Config.lagDepth] at hshort
    omega

/-- Counting quiet frames keeps the quiet count at most 15 (R96). -/
theorem Tracker.ok.quietCounted {t : Tracker} (h : t.ok) (hs : t.state = .disarmed) (peak : Nat) :
    (countQuiet t peak).ok := by
  obtain ⟨hoff, honset, hlags, hquiet, -⟩ := h
  simp only [countQuiet]
  split
  · split <;> simp_all [Tracker.ok]
  · simp_all [Tracker.ok]

/-- The scan of a reference frame opens a record or disarms (R97). -/
theorem Tracker.ok.referenceScanned {t : Tracker} (h : t.ok) (hs : t.state = .armed) (e : Epoch)
    (f : Frame) (peak : Nat) : (scanReference t e f peak).ok := by
  simp only [scanReference]
  split
  · obtain ⟨hoff, honset, hlags, hquiet, -⟩ := h
    simp_all [Tracker.ok]
  · split
    · exact h.disarmed (by simp [hs])
    · exact h

theorem Tracker.ok.referenceTracked {t : Tracker} (h : t.ok) (e : Epoch) (f : Frame) (peak : Nat) :
    (trackReference t e f peak).ok := by
  simp only [trackReference]
  split
  · exact h
  · exact h.quietCounted ‹_› peak
  · exact h.referenceScanned ‹_› e f peak
  · exact h

theorem Tracker.ok.onsetAged {t : Tracker} (h : t.ok) (now : Epoch) : (ageOnset t now).ok := by
  simp only [ageOnset]
  split
  · split
    · exact (h.disarmed (by simp [*])).withMisses _
    · exact h
  · exact h

/-- TRACKER CONFIG leaves the tracker OFF exactly when it is not enabled (R109). -/
theorem Tracker.ok.trackerConfigured {t : Tracker} (h : t.ok) (m : Message) (enable : Bool)
    (pilot : LaneId) : (configureTracker t m enable pilot).ok := by
  obtain ⟨hoff, honset, hlags, hquiet, hzero⟩ := h
  cases he : t.enabled <;> cases enable
  · simp_all [Tracker.ok, configureTracker, retarget]
  · simp_all [Tracker.ok, configureTracker, retarget, disarm]
  · simp_all [Tracker.ok, configureTracker, retarget, disarm]
  · by_cases hp : pilot = t.pilot
    · simp_all [Tracker.ok, configureTracker, retarget]
    · simp_all [Tracker.ok, configureTracker, retarget, disarm]

theorem Tracker.ok.trackerCleared {t : Tracker} (h : t.ok) : (clearTracker t).ok := by
  obtain ⟨hoff, honset, -, hrest⟩ := h
  exact ⟨hoff, honset, by simp [clearTracker], hrest⟩

/-! ## The operations of the state -/

/-- From `s` to `t` the reference records stay as R2 says and the tracker records as R95 says. -/
structure HistoryKept (s t : State) : Prop where
  refs     : s.refsOk → t.refsOk
  trackers : s.trackersOk → t.trackersOk

theorem HistoryKept.refl (s : State) : HistoryKept s s := ⟨id, id⟩

theorem HistoryKept.trans {s t u : State} (a : HistoryKept s t) (b : HistoryKept t u) :
    HistoryKept s u := ⟨b.refs ∘ a.refs, b.trackers ∘ a.trackers⟩

section
variable {s t : State}

/-- An operation that leaves both kinds of record alone. -/
theorem HistoryKept.same {u : State} (h : HistoryKept s t) (hr : u.refs = t.refs)
    (ht : u.trackers = t.trackers) : HistoryKept s u := by
  refine ⟨fun hs r => ?_, fun hs r => ?_⟩
  · rw [State.ref, hr]
    exact h.refs hs r
  · rw [State.tracker, ht]
    exact h.trackers hs r

theorem HistoryKept.setRef (h : HistoryKept s t) (r : RefId) (x : Reference)
    (hx : (t.ref r).ok → x.ok) : HistoryKept s (t.setRef r x) := by
  refine ⟨fun hs q => ?_, h.trackers⟩
  rw [State.ref_setRef]
  split
  · exact hx (h.refs hs r)
  · exact h.refs hs q

theorem HistoryKept.setTracker (h : HistoryKept s t) (r : RefId) (x : Tracker)
    (hx : (t.tracker r).ok → x.ok) : HistoryKept s (t.setTracker r x) := by
  refine ⟨h.refs, fun hs q => ?_⟩
  rw [State.tracker_setTracker]
  split
  · exact hx (h.trackers hs r)
  · exact h.trackers hs q

theorem HistoryKept.setRealign (h : HistoryKept s t) (r : RefId) (x : Realign) :
    HistoryKept s (t.setRealign r x) := h.same rfl rfl

theorem HistoryKept.setLane (h : HistoryKept s t) (l : LaneId) (x : Lane) :
    HistoryKept s (t.setLane l x) := h.same rfl rfl

theorem HistoryKept.raise (h : HistoryKept s t) (k : NoticeKind) (n : Nat) :
    HistoryKept s (t.raise k n) := h.same rfl rfl

theorem HistoryKept.raiseLane (h : HistoryKept s t) (k : NoticeKind) (l : LaneId) :
    HistoryKept s (t.raiseLane k l) := h.raise k l.val

theorem HistoryKept.raiseRef (h : HistoryKept s t) (k : NoticeKind) (r : RefId) :
    HistoryKept s (t.raiseRef k r) := h.raise k r.val

theorem HistoryKept.endPulses (h : HistoryKept s t) : HistoryKept s t.endPulses := h.same rfl rfl

theorem HistoryKept.setPort (h : HistoryKept s t) (p : Port) (x : PortState) :
    HistoryKept s (t.setPort p x) := h.same rfl rfl

theorem HistoryKept.withStore (h : HistoryKept s t) (st : Store) :
    HistoryKept s { t with store := st } := h.same rfl rfl

theorem HistoryKept.withCheckpoints (h : HistoryKept s t) (c : CheckpointStore) :
    HistoryKept s { t with checkpoints := c } := h.same rfl rfl

theorem HistoryKept.withEngine (h : HistoryKept s t) (e : Engine) :
    HistoryKept s { t with engine := e } := h.same rfl rfl

theorem HistoryKept.withDue (h : HistoryKept s t) (d : List EpochAction) (b : Bool) :
    HistoryKept s { t with due := d, scrubAbandoned := b } := h.same rfl rfl

theorem HistoryKept.engineIdle (h : HistoryKept s t) : HistoryKept s t.engineIdle := h.withEngine _

theorem HistoryKept.removeEntries (h : HistoryKept s t) (f : MaintEntry → Bool) :
    HistoryKept s (t.removeEntries f) := h.withEngine _

theorem HistoryKept.request (h : HistoryKept s t) (l : LaneId) (k : MaintKind) :
    HistoryKept s (t.request l k) := h.same (by simp) (by simp)

/-! ### Realign Control and the trackers -/

theorem HistoryKept.requestShifts (r : RefId) (d : Nat) (ls : List LaneId) :
    ∀ {t : State}, HistoryKept s t → HistoryKept s (t.requestShifts r d ls) := by
  induction ls with
  | nil => exact fun h => h
  | cons l ls ih => exact fun h => ih (h.request _ _)

theorem HistoryKept.setTarget (h : HistoryKept s t) (r : RefId) (d : Nat) :
    HistoryKept s (t.setTarget r d).1 := by
  simp only [State.setTarget]
  split
  · exact (h.setRealign r _).raiseRef _ _
  · exact HistoryKept.requestShifts r d _ (h.setRealign r _)

theorem HistoryKept.commitIdle (h : HistoryKept s t) (r : RefId) (d : Nat) (o : Origin) :
    HistoryKept s (t.commitIdle r d o).1 := by
  simp only [State.commitIdle]
  split
  · exact h
  · split
    · exact (h.setRealign r _).raiseRef _ _
    · exact h.setTarget r d

theorem HistoryKept.commit (h : HistoryKept s t) (r : RefId) (d : Nat) (o : Origin) :
    HistoryKept s (t.commit r d o).1 := by
  simp only [State.commit]
  split
  · exact h.setRealign r _
  · exact h.commitIdle r d o

theorem HistoryKept.endRealignIfDone (h : HistoryKept s t) (r : RefId) :
    HistoryKept s (t.endRealignIfDone r) := by
  simp only [State.endRealignIfDone, State.endRealign]
  split
  · split
    · exact ((h.setRealign r _).raiseRef _ _).commitIdle _ _ _
    · exact (h.setRealign r _).raiseRef _ _
  · exact h

theorem HistoryKept.endRealigns (rs : List RefId) :
    ∀ {t : State}, HistoryKept s t → HistoryKept s (t.endRealigns rs) := by
  induction rs with
  | nil => exact fun h => h
  | cons r rs ih => exact fun h => ih (h.endRealignIfDone r)

theorem HistoryKept.propose (h : HistoryKept s t) (r : RefId) : HistoryKept s (t.propose r) := by
  simp only [State.propose]
  split
  · split
    · exact h.commit _ _ _
    · exact h
  · exact h

/-- A found lag joins a list of at most 4, and the tracker is DISARMED after a match or a miss (R98). -/
theorem HistoryKept.trackMicrophone (h : HistoryKept s t) (r : RefId) (f : Epoch) (x : Frame) :
    HistoryKept s (t.trackMicrophone r f x) := by
  simp only [State.trackMicrophone]
  split
  · rename_i o hstate honset
    have disarmed : (t.tracker r).ok → (disarm (t.tracker r)).ok :=
      fun ht => ht.disarmed (by simp [hstate])
    split
    · exact h
    · split
      · refine HistoryKept.propose (h.setTracker r _ fun ht => ?_) r
        exact (disarmed ht).withLags (length_pushLag ht.lags_length _) _
      · exact h.setTracker r _ fun ht => (disarmed ht).withMisses _
      · exact h
  · exact h

theorem HistoryKept.handToTrackers (l : LaneId) (f : InFrame) (rs : List RefId) :
    ∀ {t : State}, HistoryKept s t → HistoryKept s (t.handToTrackers l f rs) := by
  induction rs with
  | nil => exact fun h => h
  | cons r rs ih =>
    intro t h
    simp only [State.handToTrackers]
    apply ih
    split
    · exact h.trackMicrophone r _ _
    · exact h

/-! ### The Reference History -/

theorem HistoryKept.acceptReference (h : HistoryKept s t) (r : RefId) (e : Epoch) (f : Frame) :
    HistoryKept s (t.acceptReference r e f) := by
  have accepted := h.setRef r (acceptFrame (t.ref r) e f) fun hx => hx.frameAccepted e f
  simp only [State.acceptReference]
  refine HistoryKept.setTracker ?_ r _ fun ht => ht.referenceTracked _ _ _
  split
  · exact accepted.raiseRef _ _
  · exact accepted

/-- The reference gets the record that `State.gap_ref` names; its tracker hears the gap and restarts where
the gap stalls (R12, R13, R100). -/
theorem HistoryKept.gap (h : HistoryKept s t) (r : RefId) (p : Epoch) :
    HistoryKept s (t.gap r p) := by
  simp only [State.gap]
  split
  · rename_i hstall
    refine ((h.setRef r _ fun hx => ?_).setTracker r _ fun ht => ?_).raiseRef _ _
    · simpa [hstall] using hx.gapRecorded p
    · exact (Tracker.ok.referenceTracked (by simpa using ht) _ _ _).progressDiscarded
  · rename_i hgo
    refine (h.setRef r _ fun hx => ?_).setTracker r _ fun ht => ?_
    · simpa only [if_neg hgo] using hx.gapRecorded p
    · exact Tracker.ok.referenceTracked (by simpa using ht) _ _ _

theorem HistoryKept.resolveFrom (r : RefId) (n : Nat) :
    ∀ {t : State} (p : Epoch), HistoryKept s t → HistoryKept s (t.resolveFrom r n p) := by
  induction n with
  | zero => exact fun _ h => h
  | succ n ih =>
    intro t p h
    refine ih _ ?_
    rw [State.resolveOne]
    split
    · exact h
    · exact h.gap r p

/-- A gap stalls a reference or leaves its state: it makes none INACTIVE (R13). -/
theorem State.gap_ref_active (s : State) (r : RefId) (p : Epoch) (h : (s.ref r).state ≠ .inactive) :
    ((s.gap r p).ref r).state ≠ .inactive := by
  rw [State.gap_ref]
  dsimp only
  split
  · simp
  · exact h

theorem State.resolveFrom_ref_active (r : RefId) (n : Nat) :
    ∀ (s : State) (p : Epoch), (s.ref r).state ≠ .inactive →
      ((s.resolveFrom r n p).ref r).state ≠ .inactive := by
  induction n with
  | zero => exact fun _ _ h => h
  | succ n ih =>
    intro s p h
    refine ih _ _ ?_
    rw [State.resolveOne]
    split
    · exact h
    · exact s.gap_ref_active r p h

theorem HistoryKept.resolve (h : HistoryKept s t) (r : RefId) : HistoryKept s (t.resolve r) := by
  simp only [State.resolve]
  split
  · exact h
  · exact h
  · rename_i _ hactive
    split
    · exact h
    · exact (HistoryKept.resolveFrom r _ _ h).setRef r _ fun hx =>
        hx.withResolution (State.resolveFrom_ref_active r _ _ _ hactive) _

/-! ### The lanes -/

theorem HistoryKept.insertOutput (h : HistoryKept s t) (l : LaneId) (f : OutFrame) :
    HistoryKept s (t.insertOutput l f) := by
  simp only [State.insertOutput]
  split
  · exact (h.setLane l _).raiseLane _ _
  · exact h.setLane l _

theorem HistoryKept.passFrames (l : LaneId) (fs : List InFrame) :
    ∀ {t : State}, HistoryKept s t → HistoryKept s (t.passFrames l fs) := by
  induction fs with
  | nil => exact fun h => h
  | cons f fs ih =>
    intro t h
    rw [State.passFrames, State.passFrame]
    exact ih (HistoryKept.handToTrackers l f _ (h.insertOutput l _))

theorem HistoryKept.flush (h : HistoryKept s t) (l : LaneId) : HistoryKept s (t.flush l) := by
  rw [State.flush]
  exact HistoryKept.passFrames l _ (h.setLane l _)

theorem HistoryKept.acceptMic (h : HistoryKept s t) (l : LaneId) (f : InFrame) :
    HistoryKept s (t.acceptMic l f) := by
  simp only [State.acceptMic]
  split
  · rw [State.passFrame]
    exact HistoryKept.handToTrackers l f _ ((h.setLane l _).insertOutput l _)
  · exact h.setLane l _

theorem HistoryKept.enterBypass (h : HistoryKept s t) (l : LaneId) :
    HistoryKept s (t.enterBypass l) := by
  simp only [State.enterBypass]
  split
  · exact h.setLane l _
  · exact (h.setLane l _).flush l

theorem HistoryKept.clearLane (h : HistoryKept s t) (l : LaneId) :
    HistoryKept s (t.clearLane l) := by
  simp only [State.clearLane]
  exact HistoryKept.endRealigns _ (((h.removeEntries _).setLane l _).request _ _)

theorem HistoryKept.unbindLane (h : HistoryKept s t) (l : LaneId) :
    HistoryKept s (t.unbindLane l) := by
  simp only [State.unbindLane]
  have removed := h.removeEntries fun e => e.lane == l && e.isShift
  refine HistoryKept.endRealigns _ (HistoryKept.setLane ?_ l _)
  exact (removed.withStore (t.store.release l 0)).withCheckpoints
    (freeStack t.checkpoints (t.lane l).guard.stack)

/-! ### What an advance brings about, and how an event begins -/

/-- Only the ageing of an onset record and the resolution of a reference touch the records. -/
theorem HistoryKept.act (h : HistoryKept s t) (a : EpochAction) : HistoryKept s (t.act a) := by
  cases a with
  | onsetAge r => exact h.setTracker r _ fun ht => ht.onsetAged _
  | resolve r => exact h.resolve r
  | holdEnd r => exact h.setRealign r _
  | changeAge r =>
    simp only [State.act, State.doChangeAge]
    split
    · split
      · exact h.setRealign r _
      · exact h
    · exact h
  | expire l =>
    simp only [State.act, State.doExpire]
    split
    · exact h
    · exact (h.setLane l _).raiseLane _ _
  | acceptedAge l =>
    simp only [State.act, State.doAcceptedAge]
    split
    · split
      · exact h.setLane l _
      · exact h
    · exact h
  | retryEnd l =>
    simp only [State.act, State.doRetryEnd]
    exact h.setLane l _
  | saveAge l =>
    simp only [State.act, State.doSaveAge]
    split
    · split
      · exact h.setLane l _
      · exact h
    · exact h

theorem HistoryKept.actAll (as : List EpochAction) :
    ∀ {t : State}, HistoryKept s t → HistoryKept s (t.actAll as) := by
  induction as with
  | nil => exact fun h => h
  | cons a as ih => exact fun h => ih (h.act a)

theorem HistoryKept.takeAction (h : HistoryKept s t) (a : EpochAction) :
    HistoryKept s (t.takeAction a) := by
  simp only [State.takeAction]
  split
  · exact (h.withDue _ _).act a
  · exact h

theorem HistoryKept.startPass (h : HistoryKept s t) (l : LaneId) :
    HistoryKept s (t.startPass l) := by
  simp only [State.startPass]
  split
  · exact h
  · exact HistoryKept.handToTrackers l _ _ ((h.setLane l _).withEngine _)

theorem HistoryKept.startOldestPass (h : HistoryKept s t) : HistoryKept s t.startOldestPass := by
  simp only [State.startOldestPass]
  split
  · exact h
  · exact h.startPass _

theorem HistoryKept.startMaintenance (h : HistoryKept s t) : HistoryKept s t.startMaintenance := by
  simp only [State.startMaintenance]
  split
  · exact h
  · exact h.withEngine _

theorem HistoryKept.arbitrate (h : HistoryKept s t) : HistoryKept s t.arbitrate := by
  simp only [State.arbitrate]
  split
  · exact h
  · split
    · exact h.startOldestPass
    · exact h.startMaintenance

theorem HistoryKept.beginStart (h : HistoryKept s t) : HistoryKept s t.beginStart := by
  rw [State.beginStart, State.settleEpoch]
  exact (HistoryKept.actAll _ (h.withDue [] _)).endPulses

theorem HistoryKept.settleScrubber (h : HistoryKept s t) : HistoryKept s t.settleScrubber := by
  rw [State.settleScrubber]
  split
  · exact h
  · exact h.withStore _

theorem HistoryKept.beginScrub (h : HistoryKept s t) : HistoryKept s t.beginScrub :=
  h.beginStart.arbitrate.endPulses

theorem HistoryKept.beginEvent (h : HistoryKept s t) : HistoryKept s t.beginEvent :=
  h.beginScrub.settleScrubber

/-! ### The completions -/

theorem HistoryKept.landUpdates (l : LaneId) (fz : Vector (Option Freeze) 3) (us : List Update) :
    ∀ {t : State}, HistoryKept s t → HistoryKept s (t.landUpdates l fz us) := by
  induction us with
  | nil => exact fun h => h
  | cons u us ih =>
    intro t h
    simp only [State.landUpdates]
    apply ih
    split
    · exact (h.setLane l _).withStore _
    · exact h

theorem HistoryKept.testLatch (h : HistoryKept s t) (l : LaneId) (m : Meter) (n : Nat) :
    HistoryKept s (t.testLatch l m n) := by
  simp only [State.testLatch]
  split
  · split
    · exact h.raiseLane _ _
    · exact h
  · split
    · exact (h.setLane l _).raiseLane _ _
    · exact h

theorem HistoryKept.autoSave (h : HistoryKept s t) (l : LaneId) (g : Guard) (n : Nat) :
    HistoryKept s (t.autoSave l g n) := by
  simp only [State.autoSave]
  split
  · exact h.request _ _
  · exact h

theorem HistoryKept.meterStep (h : HistoryKept s t) (l : LaneId) (start : Lane) (b : Bool)
    (k : TalkState) (em eo : Nat) : HistoryKept s (t.meterStep l start b k em eo) := by
  simp only [State.meterStep, State.meterWindow]
  split
  · split
    · split
      · exact (((h.setLane l _).setLane l _).testLatch l _ _).autoSave l _ _
      · exact (h.setLane l _).setLane l _
    · exact (h.setLane l _).setLane l _
  · exact h.setLane l _

theorem HistoryKept.trip (h : HistoryKept s t) (l : LaneId) (g : Guard) :
    HistoryKept s (t.trip l g) := by
  simp only [State.trip]
  split
  · exact (((h.removeEntries _).setLane l _).request l _).raiseLane _ _
  · exact (((h.removeEntries _).setLane l _).request l _).raiseLane _ _

theorem HistoryKept.guardStep (h : HistoryKept s t) (l : LaneId) (g : Guard) (v : Verdict) :
    HistoryKept s (t.guardStep l g v) := by
  simp only [State.guardStep, State.setDivergence]
  split
  · split
    · exact h
    · exact h.setLane l _
    · exact h.setLane l _
    · exact h.trip l g
  · exact h

theorem HistoryKept.outputStep (h : HistoryKept s t) (l : LaneId) (f : OutFrame) :
    HistoryKept s (t.outputStep l f) := by
  simp only [State.outputStep]
  split
  · exact ((h.setLane l _).insertOutput l f).flush l
  · exact (h.setLane l _).insertOutput l f

theorem HistoryKept.landResults (h : HistoryKept s t) (i : PassInputs) (res : PassResults) :
    HistoryKept s (t.landResults i res) := by
  simp only [State.landResults, State.talkStep, State.cursorStep]
  refine HistoryKept.outputStep (HistoryKept.setLane (HistoryKept.guardStep
    (HistoryKept.meterStep (HistoryKept.setLane ?_ _ _) _ _ _ _ _ _) _ _ _) _ _) _ _
  exact HistoryKept.landUpdates _ _ _ h

theorem HistoryKept.completePass (h : HistoryKept s t) (i : PassInputs) (g : Nat) :
    HistoryKept s (t.completePass i g) := by
  simp only [State.completePass, State.countPass]
  refine (HistoryKept.withEngine ?_ _).engineIdle
  split
  · exact h.setLane _ _
  · exact h.landResults i _

theorem HistoryKept.completeSave (h : HistoryKept s t) (l : LaneId) (x : Lane) (c : Chains)
    (e : Epoch) : HistoryKept s (t.completeSave l x c e) := by
  simp only [State.completeSave]
  refine HistoryKept.engineIdle ?_
  generalize (if Config.stackDepth ≤ (t.lane l).guard.stack.length then
    dropBottom t.checkpoints (t.lane l).guard.stack
    else (t.checkpoints, (t.lane l).guard.stack)) = a
  generalize makeRoom _ _ a.1 a.2 = b
  split
  · exact ((h.setLane l _).withCheckpoints _).raiseLane _ _
  · exact (h.setLane l _).withCheckpoints _

theorem HistoryKept.completeRestore (h : HistoryKept s t) (l : LaneId) (x : Lane) (c : Chains) :
    HistoryKept s (t.completeRestore l x c) := by
  simp only [State.completeRestore, State.writeChains]
  refine HistoryKept.engineIdle ?_
  split
  · exact ((h.withStore _).setLane l _).withCheckpoints _
  · exact h.withStore _

theorem HistoryKept.completeClear (h : HistoryKept s t) (l : LaneId) :
    HistoryKept s (t.completeClear l) := by
  simp only [State.completeClear, State.writeChains]
  refine HistoryKept.engineIdle ?_
  split
  · exact (h.withStore _).setLane l _
  · exact h.withStore _

theorem HistoryKept.completeShift (h : HistoryKept s t) (l : LaneId) (r : RefId) (d : Int)
    (old : List Partition) : HistoryKept s (t.completeShift l r d old) := by
  simp only [State.completeShift]
  exact ((h.withStore _).setLane l _).engineIdle.endRealignIfDone r

end

end Sys2Proof.Machine
end

section
/-! SUPPORT. Every step keeps the reference and the tracker records: the commands by their owners, the
events one by one. -/

namespace Sys2Proof.Machine

/-! ## The commands -/

/-- A command keeps the records if its owner's effect does. -/
theorem HistoryKept.command {k : Kind} {p : Port} {m : Message} {s t : State}
    {owner : State → Reply} (h : takeCommand k p m s owner = .next t)
    (ho : ∀ u, HistoryKept u (owner u).after) : HistoryKept s t :=
  takeCommand_after h (.refl s) (HistoryKept.refl s).beginEvent
    ((HistoryKept.refl s).beginEvent.trans (ho _)) fun _ _ _ _ hu => hu.setPort _ _

theorem historyKept_declareActive (u : State) (r : RefId) : HistoryKept u (u.declareActive r) := by
  rw [State.declareActive]
  split
  · exact (HistoryKept.refl u).setRef r _ fun hx => hx.activated _
  · exact .refl u

theorem historyKept_declareInactive (u : State) (r : RefId) :
    HistoryKept u (declareInactive u r).after := by
  rw [declareInactive]
  split
  · exact .refl u
  · split
    · exact .refl u
    · refine ((HistoryKept.refl u).setRef r _ fun hx => hx.deactivated).setTracker r _ fun ht => ?_
      exact ht.progressDiscarded

/-- A refused frame moves at most a counter of refusals; an accepted one is written and handed to the
tracker (R10, R11). -/
theorem historyKept_frameReply (u : State) (r : RefId) (e : Epoch) (f : Frame) :
    HistoryKept u (frameReply u r e f).after := by
  have late : HistoryKept u (u.countLate r) := (HistoryKept.refl u).setRef r _ id
  simp only [frameReply]
  split
  · exact .refl u
  split
  · exact (HistoryKept.refl u).setRef r _ id
  split
  · exact late
  split
  · exact late
  split
  · exact .refl u
  · exact (HistoryKept.refl u).acceptReference r e f

theorem historyKept_saveReply (u : State) (l : LaneId) : HistoryKept u (saveReply u l).after := by
  have queued := (HistoryKept.refl u).request l .save
  rw [saveReply]
  split
  · exact .refl u
  · exact .refl u
  · exact .refl u
  · exact queued
  · exact queued
  · exact queued

theorem historyKept_setModeRun (u : State) (l : LaneId) : HistoryKept u (setModeRun u l).after := by
  simp only [setModeRun]
  split
  · exact .refl u
  · split
    · exact .refl u
    · exact (HistoryKept.refl u).setLane l _
  · exact .refl u
  · exact .refl u
  · exact .refl u
  · exact .refl u

theorem historyKept_setModeBypass (u : State) (l : LaneId) :
    HistoryKept u (setModeBypass u l).after := by
  have entered := (HistoryKept.refl u).enterBypass l
  rw [setModeBypass]
  split
  · exact .refl u
  · exact entered
  · exact entered
  · exact entered
  · exact .refl u
  · exact .refl u

theorem historyKept_resizeReply (u : State) (l : LaneId) (tail : Nat) :
    HistoryKept u (resizeReply u l tail).after := by
  simp only [resizeReply]
  split
  · exact (HistoryKept.refl u).setLane l _
  split
  · split
    · exact .refl u
    · exact ((HistoryKept.refl u).withStore _).setLane l _
  · exact ((HistoryKept.refl u).withStore _).setLane l _

theorem historyKept_writeReply (u : State) (m : Message) (l : LaneId) (r : RefId)
    (start trueLength : Nat) : HistoryKept u (writeReply u m l r start trueLength).after := by
  simp only [writeReply]
  split
  · exact .refl u
  · exact ((HistoryKept.refl u).withStore _).setLane l _

/-- A COEFF READ changes nothing (R52, R53). -/
@[simp] theorem readReply_after (u : State) (l : LaneId) (r : RefId) (start trueLength : Nat) :
    (readReply u l r start trueLength).after = u := by
  simp only [readReply]
  split <;> rfl

/-- At a reset every record is as R2 and R95 say. -/
theorem historyKept_of_reset {s t : State} (hr : t.refs = State.reset.refs)
    (ht : t.trackers = State.reset.trackers) : HistoryKept s t := by
  refine ⟨fun _ r => ?_, fun _ r => ?_⟩
  · have h : t.ref r = Reference.reset := by simp [State.ref, hr, State.reset]
    rw [h]
    exact Reference.ok_reset
  · have h : t.tracker r = Tracker.reset := by simp [State.tracker, ht, State.reset]
    rw [h]
    exact Tracker.ok_reset

/-- An event whose next state is `u` keeps the records if they are kept up to `u`. -/
theorem HistoryKept.event {s t u : State}
    (h : (Host.Outcome.next u : Host.Outcome State Fault Refusal) = .next t)
    (hu : HistoryKept s u) : HistoryKept s t := by
  cases h
  exact hu

/-! ## Every row of the table -/

/-- Every row keeps the records. The reference records are written by the commands of the Reference
History, the resolutions and the resets; the tracker records by these, by the frames that lanes consume
and by the commands of Delay Tracking. -/
theorem exec_historyKept {c : Instr} {s t : State} (h : exec c s = .next t) : HistoryKept s t := by
  have begun := (HistoryKept.refl s).beginEvent
  cases c with
  | powerOn => exact .event h (historyKept_of_reset rfl rfl)
  | resetNAssert => exact .event h (historyKept_of_reset rfl rfl)
  | resetNRelease =>
    refine .event h ?_
    split
    · exact begun.same rfl rfl
    · exact begun.same rfl rfl
  | epochAdvance =>
    refine .event h ?_
    split
    · exact begun
    · exact begun.same rfl rfl
  | epochResolution r =>
    refine .event h ?_
    split
    · exact ((HistoryKept.refl s).takeAction _).takeAction _
    · exact .refl s
  | frameExpiry _ | lastAcceptedEpochAgeOut _ | retryCountdownEnd _ | holdCountdownEnd _
  | lastChangeAgeOut _ | onsetRecordAgeOut _ | lastSaveEpochAgeOut _ =>
    exact .event h ((HistoryKept.refl s).takeAction _)
  | transactionTruncated c =>
    refine .event h ?_
    split
    · exact ((begun.setPort _ _).setPort _ _).raise _ _
    · exact begun
  | responseCut p | responseSent c | transactionEnd p =>
    refine .event h ?_
    split
    · exact begun.setPort _ _
    · exact begun
  | transactionStart c =>
    simp only [exec, execTransactionStart] at h
    split at h
    · cases h
    · refine .event h ?_
      split
      · exact begun
      · exact begun.setPort _ _
  | unknownKind p code m =>
    simp only [exec, execUnknownKind] at h
    split at h
    · cases h
    split at h
    · exact .event h (.refl s)
    · exact .event h (((begun.setPort _ _).raise _ _).setPort _ _)
  | passStart =>
    have started := (HistoryKept.refl s).beginStart
    refine .event h ?_
    split
    · exact started
    · exact started.startOldestPass
  | maintenanceStart =>
    have started := (HistoryKept.refl s).beginStart
    refine .event h ?_
    split
    · exact started
    · exact started.startMaintenance
  | passComplete =>
    refine .event h ?_
    split
    · exact begun.completePass _ _
    · exact begun
  | saveComplete =>
    refine .event h ?_
    split
    · exact begun.completeSave _ _ _ _
    · exact begun
  | restoreComplete =>
    refine .event h ?_
    split
    · exact begun.completeRestore _ _ _
    · exact begun
  | clearComplete =>
    refine .event h ?_
    split
    · exact begun.completeClear _
    · exact begun
  | shiftComplete =>
    refine .event h ?_
    split
    · exact begun.completeShift _ _ _ _
    · exact begun
  | scrubStart => exact .event h (HistoryKept.refl s).beginScrub.settleScrubber
  | scrubComplete =>
    refine .event h ?_
    split
    · split
      · exact begun
      · exact begun.withStore _
    · exact begun
  | declareRef p m =>
    refine .command h fun u => onRef_after (.refl u) fun r => ?_
    split
    · exact .refl u
    split
    · exact .refl u
    · exact historyKept_declareActive u r
    · exact historyKept_declareInactive u r
  | refFrame p m =>
    refine .command h fun u => onRef_after (.refl u) fun r => ?_
    split
    · exact .refl u
    · exact historyKept_frameReply u r _ _
  | refConfig p m =>
    refine .command h fun u => onRef_after (.refl u) fun r => ?_
    split
    · exact .refl u
    · obtain ⟨hlo, hhi⟩ := tuned_mem m 0 (lo := 1) (hi := 4) (by decide)
      exact (HistoryKept.refl u).setRef r _ fun hx => hx.waitConfigured hlo hhi _
  | refStatus p m | trackerStatus p m =>
    exact .command h fun u => onRef_after (.refl u) fun r => .refl u
  | historyRead p m =>
    refine .command h fun u => onRef_after (.refl u) fun r => ?_
    split <;> exact .refl u
  | trackerConfig p m =>
    refine .command h fun u => onRef_after (.refl u) fun r => ?_
    split
    · exact (HistoryKept.refl u).setTracker r _ fun ht => ht.trackerConfigured m _ _
    · exact .refl u
  | trackerClear p m =>
    exact .command h fun u => onRef_after (.refl u) fun r =>
      (HistoryKept.refl u).setTracker r _ fun ht => ht.trackerCleared
  | setDelay p m =>
    exact .command h fun u => onRef_after (.refl u) fun r => (HistoryKept.refl u).commit r _ _
  | nop p m | engineStatus p m =>
    exact .command h fun u => onZero_after (.refl u) (.refl u)
  | noticeRead p m | noticeArm p m =>
    exact .command h fun u => onZero_after (.refl u) ((HistoryKept.refl u).setPort _ _)
  | noticeConfig p m =>
    refine .command h fun u => onZero_after (.refl u) ?_
    split
    · exact .refl u
    split
    · exact .refl u
    · exact (HistoryKept.refl u).setPort _ _
  | deviceReset p m =>
    exact .command h fun u => onZero_after (.refl u) (historyKept_of_reset rfl rfl)
  | micFrame p m =>
    refine .command h fun u => onLane_after (.refl u) fun l => ?_
    split
    · exact .refl u
    · exact (HistoryKept.refl u).acceptMic l _
  | fetch p m =>
    refine .command h fun u => onBoundLane_after (.refl u) fun l => ?_
    split
    · exact .refl u
    · exact (HistoryKept.refl u).setLane l _
  | setMode p m =>
    refine .command h fun u => onLane_after (.refl u) fun l => ?_
    split
    · exact .refl u
    · exact historyKept_setModeRun u l
    · exact historyKept_setModeBypass u l
  | bind p m =>
    refine .command h fun u => onLane_after (.refl u) fun l => ?_
    split
    · exact .refl u
    split
    · split
      · exact .refl u
      · exact ((HistoryKept.refl u).withStore _).setLane l _
    · exact .refl u
  | unbind p m =>
    refine .command h fun u => onBoundLane_after (.refl u) fun l => ?_
    split
    · exact .refl u
    · exact (HistoryKept.refl u).unbindLane l
  | resize p m =>
    refine .command h fun u => onLane_after (.refl u) fun l => ?_
    split
    · exact .refl u
    split
    · exact .refl u
    split
    · exact .refl u
    · exact historyKept_resizeReply u l _
  | resetLane p m =>
    exact .command h fun u => onBoundLane_after (.refl u) fun l => (HistoryKept.refl u).clearLane l
  | laneStatus p m | storeStatus p m | guardStatus p m =>
    exact .command h fun u => onLane_after (.refl u) fun l => .refl u
  | talkStatus p m | meterRead p m =>
    exact .command h fun u => onBoundLane_after (.refl u) fun l => .refl u
  | coeffRead p m =>
    refine .command h fun u => onLane_after (.refl u) fun l => ?_
    split
    · exact .refl u
    split
    · exact .refl u
    split
    · exact .refl u
    · rw [readReply_after]
      exact .refl u
  | coeffWrite p m =>
    refine .command h fun u => onLane_after (.refl u) fun l => ?_
    split
    · exact .refl u
    split
    · exact .refl u
    split
    · exact .refl u
    split
    · exact .refl u
    split
    · exact .refl u
    split
    · exact .refl u
    · exact historyKept_writeReply u m l _ _ _
  | laneConfig p m | talkConfig p m | meterConfig p m =>
    exact .command h fun u => onBoundLane_after (.refl u) fun l => (HistoryKept.refl u).setLane l _
  | rearm p m =>
    refine .command h fun u => onLane_after (.refl u) fun l => ?_
    split
    · exact .refl u
    split
    · exact .refl u
    · exact (HistoryKept.refl u).setLane l _
  | saveCheckpoint p m =>
    exact .command h fun u => onLane_after (.refl u) fun l => historyKept_saveReply u l
  | dropCheckpoints p m =>
    refine .command h fun u => onBoundLane_after (.refl u) fun l => ?_
    split
    · exact .refl u
    · exact ((HistoryKept.refl u).withCheckpoints _).setLane l _
  | guardConfig p m =>
    refine .command h fun u => onLane_after (.refl u) fun l => ?_
    split
    · exact .refl u
    split
    · exact .refl u
    · exact (HistoryKept.refl u).setLane l _

/-- A step keeps the records, the part idle or not. -/
theorem step_historyKept {s t : State} (h : step s = .next t) : HistoryKept s t := by
  rw [step] at h
  split at h
  · exact .event h (.refl s)
  · rename_i rest _
    have dequeued : HistoryKept s { s with pending := rest } := (HistoryKept.refl s).same rfl rfl
    exact dequeued.trans (exec_historyKept h)

/-- Settles O55: each operation on a reference record keeps what R2 says of it and each operation on a
tracker record what R95 says of it, and no row touches the records by any other operation. -/
theorem referenceAndTrackerInvariantKept : Obligations.ReferenceAndTrackerInvariantKept :=
  ⟨fun _ _ hs h => (step_historyKept h).refs hs, fun _ _ hs h => (step_historyKept h).trackers hs⟩

end Sys2Proof.Machine
end

section
/-! SUPPORT. Who may change E, a lock flag, the map and the coefficients: what the completions and the
allocations keep, then every row of the table against the one `Owned` says of it. -/

namespace Sys2Proof.Machine

/-! ## The completions that write coefficients keep the lock flags -/

/-- The completion of a RESTORE, after its chains are written, writes no coefficient and sets no lock
flag. -/
theorem steady_completeRestore (s : State) (l : LaneId) (x : Lane) (saved : Chains) :
    Steady (s.writeChains l (restoredChains x saved)) (s.completeRestore l x saved) := by
  simp only [State.completeRestore]
  refine Steady.engineIdle ?_
  split
  · exact ((Steady.refl _).setLane l _ (by simp)).withCheckpoints _
  · exact .refl _

/-- The completion of a CLEAR, after its chains are written. -/
theorem steady_completeClear (s : State) (l : LaneId) :
    Steady (s.writeChains l (zeroChains (s.lane l))) (s.completeClear l) := by
  simp only [State.completeClear]
  refine Steady.engineIdle ?_
  split
  · exact (Steady.refl _).setLane l _ fun h => h
  · exact .refl _

/-- The completion of a SHIFT, after its chain is written. -/
theorem steady_completeShift (s : State) (l : LaneId) (r : RefId) (d : Int)
    (old : List Partition) :
    Steady { s with store := s.store.writeChain l r 0 (shiftChain old d) }
      (s.completeShift l r d old) := by
  simp only [State.completeShift]
  exact ((Steady.refl _).setLane l _ (by exact id)).engineIdle.endRealignIfDone r

/-! ## An allocation writes the map alone -/

theorem Store.bindAll_coefs (l : LaneId) (xs : List (PartId × RefId × Nat)) :
    ∀ st : Store, (st.bindAll l xs).coefs = st.coefs := by
  induction xs with
  | nil => exact fun _ => rfl
  | cons x xs ih => exact fun st => ih (st.bindPart x.1 l x.2.1 x.2.2)

theorem Store.allocate_coefs {st st' : Store} {l : LaneId} {refs : List RefId} {start stop : Nat}
    (h : st.allocate l refs start stop = some st') : st'.coefs = st.coefs := by
  simp only [Store.allocate] at h
  split at h
  · cases h
  · cases h
    exact Store.bindAll_coefs l _ st

/-! ## The countdowns of an advance -/

/-- The retry countdown of a TRIPPED lane above 1 counts one epoch; every other field stays (R128). -/
theorem retryTick_eq (x : Lane) : retryTick x = { x with guard := { x.guard with retry :=
    match x.guard.retry with
    | some n => if x.state = .tripped ∧ 1 < n then some (n - 1) else some n
    | none => none } } := by
  rw [retryTick]
  split
  · rename_i n hs hr
    rw [hr]
    by_cases hn : 1 < n
    · simp only [hs, hn, true_and, if_true]
    · simp only [hs, hn, and_false, if_false]
      rw [← hr, ← hs]
  · rename_i hno
    cases hr : x.guard.retry with
    | none =>
      dsimp only
      rw [← hr]
    | some n =>
      simp only [if_neg fun h : x.state = .tripped ∧ 1 < n => hno n h.1 hr]
      rw [← hr]

/-- A hold countdown above 1 counts one epoch (R102). -/
theorem holdTick_eq (x : Realign) :
    holdTick x = { x with hold := if 1 < x.hold then x.hold - 1 else x.hold } := by
  rw [holdTick]
  split <;> rfl

@[simp] theorem State.advance_epoch (s : State) : s.advance.epoch = s.epoch + 1 := rfl

@[simp] theorem State.advance_lane (s : State) (l : LaneId) :
    s.advance.lane l = retryTick (s.lane l) := by simp [State.lane, State.advance]

@[simp] theorem State.advance_realign (s : State) (r : RefId) :
    s.advance.realign r = holdTick (s.realign r) := by simp [State.realign, State.advance]

/-! ## What the owners alone may change -/

/-- From `s` to `t`, a step of the row `c`, nothing changes that `c` does not own: E, the lock flags (set
by no other row), the map and the coefficients. -/
structure Owned (c : Instr) (s t : State) : Prop where
  epoch : c ≠ .epochAdvance → isReset c = false → t.epoch = s.epoch
  lock  : ∀ l, (s.lane l).lock = false → (t.lane l).lock = true → c = .passComplete
  map   : t.store.map ≠ s.store.map → isReset c = true ∨ c = .scrubComplete
    ∨ ∃ p m, c = .bind p m ∨ c = .unbind p m ∨ c = .resize p m
  coefs : t.store.coefs ≠ s.store.coefs →
    c ∈ [.powerOn, .passComplete, .restoreComplete, .clearComplete, .shiftComplete, .scrubComplete]
      ∨ ∃ p m, c = .coeffWrite p m

section
variable {c : Instr} {s t u : State}

/-- What an event finds is what the event before it left, in all that is owned. -/
theorem Owned.of_begun (hb : Begun s u) (h : Owned c u t) : Owned c s t := by
  refine ⟨fun hc hr => (h.epoch hc hr).trans hb.epoch, fun l hs ht => h.lock l ?_ ht,
    fun hm => h.map (hb.map ▸ hm), fun hm => h.coefs (hb.coefs ▸ hm)⟩
  exact Bool.eq_false_iff.mpr fun hu => Bool.eq_false_iff.mp hs (hb.lock l hu)

/-- A row may do what no row owns. -/
theorem Owned.of_kept (he : t.epoch = s.epoch) (hm : t.store.map = s.store.map)
    (hf : t.store.coefs = s.store.coefs) (hl : ∀ l, (t.lane l).lock = true → (s.lane l).lock = true) :
    Owned c s t :=
  ⟨fun _ _ => he, fun l hs ht => absurd (hl l ht) (Bool.eq_false_iff.mp hs),
    fun h => absurd hm h, fun h => absurd hf h⟩

theorem Steady.owned (h : Steady s t) : Owned c s t := .of_kept h.epoch h.map h.coefs h.lock

theorem Begun.owned (h : Begun s t) : Owned c s t := .of_kept h.epoch h.map h.coefs h.lock

theorem Owned.refl (c : Instr) (s : State) : Owned c s s := (Steady.refl s).owned

/-- A port's record is owned by no row. -/
theorem Owned.setPort (h : Owned c s t) (p : Port) (x : PortState) : Owned c s (t.setPort p x) :=
  ⟨h.epoch, h.lock, h.map, h.coefs⟩

theorem Owned.raise (h : Owned c s t) (k : NoticeKind) (n : Nat) : Owned c s (t.raise k n) :=
  ⟨h.epoch, h.lock, h.map, h.coefs⟩

/-- A completion that writes coefficients and then does what no row owns. -/
theorem Owned.of_written {w : State} (h : Steady w t) (he : w.epoch = s.epoch)
    (hl : w.lanes = s.lanes) (hm : w.store.map = s.store.map)
    (hc : c ∈ [.powerOn, .passComplete, .restoreComplete, .clearComplete, .shiftComplete,
      .scrubComplete]) : Owned c s t := by
  refine ⟨fun _ _ => h.epoch.trans he, fun l hs ht => ?_, fun hne => absurd (h.map.trans hm) hne,
    fun _ => .inl hc⟩
  have hw : (w.lane l).lock = (s.lane l).lock := by rw [State.lane, State.lane, hl]
  have hlocked := h.lock l ht
  rw [hw, hs] at hlocked
  cases hlocked

/-- A reset leaves every lock flag clear; only POWER_ON of the resets writes the coefficients. -/
theorem Owned.of_reset (hr : isReset c = true) (hl : t.lanes = State.reset.lanes)
    (hf : c = .powerOn ∨ t.store.coefs = s.store.coefs) : Owned c s t := by
  refine ⟨fun _ h => by simp [hr] at h, fun l _ ht => ?_, fun _ => .inl hr, fun hne => ?_⟩
  · simp [State.lane, hl, State.reset, Lane.reset] at ht
  · obtain rfl | hsame := hf
    · simp
    · exact absurd hsame hne

theorem Owned.event {u : State} (h : (Host.Outcome.next u : Host.Outcome State Fault Refusal) = .next t)
    (hu : Owned c s u) : Owned c s t := by
  cases h
  exact hu

theorem Owned.command {k : Kind} {p : Port} {m : Message} {owner : State → Reply}
    (h : takeCommand k p m s owner = .next t) (ho : ∀ u, Owned c u (owner u).after) :
    Owned c s t :=
  takeCommand_after h (.refl c s) (begun_beginEvent s).owned
    (Owned.of_begun (begun_beginEvent s) (ho _)) fun _ _ _ _ hu => hu.setPort _ _

end

/-! ## The owners' answers -/

theorem owned_frameReply (c : Instr) (u : State) (r : RefId) (e : Epoch) (f : Frame) :
    Owned c u (frameReply u r e f).after := by
  have counted := fun x => ((Steady.refl u).setRef r x).owned (c := c)
  simp only [frameReply]
  split
  · exact .refl c u
  split
  · exact counted _
  split
  · exact counted _
  split
  · exact counted _
  split
  · exact .refl c u
  · exact ((Steady.refl u).acceptReference r e f).owned

theorem owned_declareReply (c : Instr) (u : State) (r : RefId) :
    Owned c u (u.declareActive r) ∧ Owned c u (declareInactive u r).after := by
  rw [State.declareActive, declareInactive]
  refine ⟨?_, ?_⟩
  · split
    · exact ((Steady.refl u).setRef r _).owned
    · exact .refl c u
  · split
    · exact .refl c u
    split
    · exact .refl c u
    · exact (((Steady.refl u).setRef r _).setTracker r _).owned

theorem owned_saveReply (c : Instr) (u : State) (l : LaneId) :
    Owned c u (saveReply u l).after := by
  have queued := ((Steady.refl u).request l .save).owned (c := c)
  rw [saveReply]
  split
  · exact .refl c u
  · exact .refl c u
  · exact .refl c u
  · exact queued
  · exact queued
  · exact queued

/-- SET MODE clears the lock flag or leaves it (R31, R32). -/
theorem owned_setModeReply (c : Instr) (u : State) (l : LaneId) :
    Owned c u (setModeRun u l).after ∧ Owned c u (setModeBypass u l).after := by
  have entered := ((Steady.refl u).enterBypass l).owned (c := c)
  simp only [setModeRun, setModeBypass]
  refine ⟨?_, ?_⟩
  · split
    · exact .refl c u
    · split
      · exact .refl c u
      · exact ((Steady.refl u).setLane l _ (by simp)).owned
    · exact .refl c u
    · exact .refl c u
    · exact .refl c u
    · exact .refl c u
  · split
    · exact .refl c u
    · exact entered
    · exact entered
    · exact entered
    · exact .refl c u
    · exact .refl c u

/-- A lane command that writes the store and the lane's record, and sets no lock flag. -/
theorem Owned.withStore_setLane {c : Instr} {s : State} {st : Store} {l : LaneId} {x : Lane}
    (hx : x.lock = true → (s.lane l).lock = true)
    (hm : st.map ≠ s.store.map → ∃ p m, c = .bind p m ∨ c = .unbind p m ∨ c = .resize p m)
    (hf : st.coefs ≠ s.store.coefs → ∃ p m, c = .coeffWrite p m) :
    Owned c s ({ s with store := st }.setLane l x) := by
  have hl := ((Steady.refl { s with store := st }).setLane l x hx).lock
  exact ⟨fun _ _ => rfl, fun k hs ht => absurd (hl k ht) (Bool.eq_false_iff.mp hs),
    fun hne => .inr (.inr (hm hne)), fun hne => .inr (hf hne)⟩

theorem owned_resizeReply (p : Port) (m : Message) (u : State) (l : LaneId) (tail : Nat) :
    Owned (.resize p m) u (resizeReply u l tail).after := by
  simp only [resizeReply]
  split
  · exact ((Steady.refl u).setLane l _ (by exact id)).owned
  split
  · split
    · exact .refl _ u
    · rename_i st halloc
      exact .withStore_setLane (by exact id) (fun _ => ⟨p, m, by simp⟩)
        fun hne => absurd (Store.allocate_coefs halloc) hne
  · exact .withStore_setLane (by exact id) (fun _ => ⟨p, m, by simp⟩)
      fun hne => absurd (Store.release_facts _ _ _).1 hne

/-- The lanes do not depend on the store. -/
theorem State.withStore_lane (s : State) (st : Store) (l : LaneId) :
    ({ s with store := st } : State).lane l = s.lane l := rfl

/-- UNBIND, after it has released the lane's partitions, writes no coefficient and sets no lock flag. -/
theorem steady_unbindLane (u : State) (l : LaneId) :
    Steady { u with store := u.store.release l 0 } (u.unbindLane l) := by
  simp only [State.unbindLane, State.removeEntries_store]
  generalize u.store.release l 0 = st
  refine Steady.endRealigns _ (Steady.setLane ?_ l _ (by exact id))
  exact ((Steady.refl { u with store := st }).removeEntries _).withCheckpoints _

theorem owned_unbindLane (p : Port) (m : Message) (u : State) (l : LaneId) :
    Owned (.unbind p m) u (u.unbindLane l) := by
  have ended := steady_unbindLane u l
  refine ⟨fun _ _ => ended.epoch, fun k hs ht => ?_, fun _ => .inr (.inr ⟨p, m, by simp⟩),
    fun hne => absurd (ended.coefs.trans (Store.release_facts u.store l 0).1) hne⟩
  have hl := ended.lock k ht
  rw [State.withStore_lane, hs] at hl
  cases hl

theorem owned_writeReply (p : Port) (q m : Message) (u : State) (l : LaneId) (r : RefId)
    (start n : Nat) : Owned (.coeffWrite p q) u (writeReply u m l r start n).after := by
  simp only [writeReply]
  split
  · exact .refl _ u
  · exact .withStore_setLane (by exact id) (fun hne => absurd (by simp) hne) fun _ => ⟨p, q, rfl⟩

/-! ## Every row of the table -/

/-- Every row changes only what it owns. -/
theorem exec_owned {c : Instr} {s t : State} (h : exec c s = .next t) : Owned c s t := by
  have begun := begun_beginEvent s
  have begunOwned := begun.owned (c := c)
  cases c with
  | powerOn => exact .event h (.of_reset rfl rfl (.inl rfl))
  | resetNAssert => exact .event h (.of_reset rfl rfl (.inr rfl))
  | deviceReset p m =>
    exact .command h fun u => onZero_after (.refl _ u) (.of_reset rfl rfl (.inr rfl))
  | resetNRelease =>
    refine .event h ?_
    split
    · exact ⟨begunOwned.epoch, begunOwned.lock, begunOwned.map, begunOwned.coefs⟩
    · exact ⟨begunOwned.epoch, begunOwned.lock, begunOwned.map, begunOwned.coefs⟩
  | epochAdvance =>
    refine .event h ?_
    split
    · exact begunOwned
    · refine .of_begun begun ⟨fun hc => absurd rfl hc, fun l hs ht => ?_, fun hne => absurd rfl hne,
        fun hne => absurd rfl hne⟩
      rw [State.advance_lane, retryTick_eq] at ht
      exact absurd ht (Bool.eq_false_iff.mp hs)
  | epochResolution r =>
    refine .event h ?_
    split
    · exact (((Steady.refl s).takeAction _).takeAction _).owned
    · exact .refl _ s
  | frameExpiry _ | lastAcceptedEpochAgeOut _ | retryCountdownEnd _ | holdCountdownEnd _
  | lastChangeAgeOut _ | onsetRecordAgeOut _ | lastSaveEpochAgeOut _ =>
    exact .event h ((Steady.refl s).takeAction _).owned
  | transactionTruncated c =>
    refine .event h ?_
    split
    · exact ((begunOwned.setPort _ _).setPort _ _).raise _ _
    · exact begunOwned
  | responseCut p | responseSent c | transactionEnd p =>
    refine .event h ?_
    split
    · exact begunOwned.setPort _ _
    · exact begunOwned
  | transactionStart c =>
    simp only [exec, execTransactionStart] at h
    split at h
    · cases h
    · refine .event h ?_
      split
      · exact begunOwned
      · exact begunOwned.setPort _ _
  | unknownKind p code m =>
    simp only [exec, execUnknownKind] at h
    split at h
    · cases h
    split at h
    · exact .event h (.refl _ s)
    · exact .event h (((begunOwned.setPort _ _).raise _ _).setPort _ _)
  | passStart =>
    have started := (Steady.refl s).beginStart
    refine .event h ?_
    split
    · exact started.owned
    · exact started.startOldestPass.owned
  | maintenanceStart =>
    have started := (Steady.refl s).beginStart
    refine .event h ?_
    split
    · exact started.owned
    · exact started.startMaintenance.owned
  | passComplete =>
    refine .event h ?_
    split
    · have kept := (Keeps.refl s.beginEvent).completePass
      exact .of_begun begun ⟨fun _ _ => (kept _ _).epoch, fun _ _ _ => rfl,
        fun hne => absurd (kept _ _).map hne, fun _ => by simp⟩
    · exact begunOwned
  | saveComplete =>
    refine .event h ?_
    split
    · exact .of_begun begun ((Steady.refl _).completeSave _ _ _ _).owned
    · exact begunOwned
  | restoreComplete =>
    refine .event h ?_
    split
    · exact .of_begun begun
        (.of_written (steady_completeRestore _ _ _ _) rfl rfl (by simp [State.writeChains]) (by simp))
    · exact begunOwned
  | clearComplete =>
    refine .event h ?_
    split
    · exact .of_begun begun
        (.of_written (steady_completeClear _ _) rfl rfl (by simp [State.writeChains]) (by simp))
    · exact begunOwned
  | shiftComplete =>
    refine .event h ?_
    split
    · exact .of_begun begun
        (.of_written (steady_completeShift _ _ _ _ _) rfl rfl (by simp) (by simp))
    · exact begunOwned
  | scrubStart => exact .event h begunOwned
  | scrubComplete =>
    refine .event h ?_
    split
    · split
      · exact begunOwned
      · exact .of_begun begun ⟨fun _ _ => rfl, fun l hs ht => absurd ht (Bool.eq_false_iff.mp hs),
          fun _ => by simp, fun _ => by simp⟩
    · exact begunOwned
  | declareRef p m =>
    refine .command h fun u => onRef_after (.refl _ u) fun r => ?_
    split
    · exact .refl _ u
    split
    · exact .refl _ u
    · exact (owned_declareReply _ u r).1
    · exact (owned_declareReply _ u r).2
  | refFrame p m =>
    refine .command h fun u => onRef_after (.refl _ u) fun r => ?_
    split
    · exact .refl _ u
    · exact owned_frameReply _ u r _ _
  | refConfig p m =>
    refine .command h fun u => onRef_after (.refl _ u) fun r => ?_
    split
    · exact .refl _ u
    · exact ((Steady.refl u).setRef r _).owned
  | refStatus p m | trackerStatus p m =>
    exact .command h fun u => onRef_after (.refl _ u) fun r => .refl _ u
  | historyRead p m =>
    refine .command h fun u => onRef_after (.refl _ u) fun r => ?_
    split <;> exact .refl _ u
  | trackerConfig p m =>
    refine .command h fun u => onRef_after (.refl _ u) fun r => ?_
    split
    · exact ((Steady.refl u).setTracker r _).owned
    · exact .refl _ u
  | trackerClear p m =>
    exact .command h fun u => onRef_after (.refl _ u) fun r => ((Steady.refl u).setTracker r _).owned
  | setDelay p m =>
    exact .command h fun u => onRef_after (.refl _ u) fun r => ((Steady.refl u).commit r _ _).owned
  | nop p m | engineStatus p m =>
    exact .command h fun u => onZero_after (.refl _ u) (.refl _ u)
  | noticeRead p m | noticeArm p m =>
    exact .command h fun u => onZero_after (.refl _ u) ((Owned.refl _ u).setPort _ _)
  | noticeConfig p m =>
    refine .command h fun u => onZero_after (.refl _ u) ?_
    split
    · exact .refl _ u
    split
    · exact .refl _ u
    · exact (Owned.refl _ u).setPort _ _
  | micFrame p m =>
    refine .command h fun u => onLane_after (.refl _ u) fun l => ?_
    split
    · exact .refl _ u
    · exact ((Steady.refl u).acceptMic l _).owned
  | fetch p m =>
    refine .command h fun u => onBoundLane_after (.refl _ u) fun l => ?_
    split
    · exact .refl _ u
    · exact ((Steady.refl u).setLane l _ (by exact id)).owned
  | setMode p m =>
    refine .command h fun u => onLane_after (.refl _ u) fun l => ?_
    split
    · exact .refl _ u
    · exact (owned_setModeReply _ u l).1
    · exact (owned_setModeReply _ u l).2
  | bind p m =>
    refine .command h fun u => onLane_after (.refl _ u) fun l => ?_
    split
    · exact .refl _ u
    split
    · split
      · exact .refl _ u
      · rename_i st halloc
        exact .withStore_setLane (by simp [State.boundLane, Lane.reset]) (fun _ => ⟨p, m, by simp⟩)
          fun hne => absurd (Store.allocate_coefs halloc) hne
    · exact .refl _ u
  | unbind p m =>
    refine .command h fun u => onBoundLane_after (.refl _ u) fun l => ?_
    split
    · exact .refl _ u
    · exact owned_unbindLane p m u l
  | resize p m =>
    refine .command h fun u => onLane_after (.refl _ u) fun l => ?_
    split
    · exact .refl _ u
    split
    · exact .refl _ u
    split
    · exact .refl _ u
    · exact owned_resizeReply p m u l _
  | resetLane p m =>
    exact .command h fun u => onBoundLane_after (.refl _ u) fun l =>
      ((Steady.refl u).clearLane l).owned
  | laneStatus p m | storeStatus p m | guardStatus p m =>
    exact .command h fun u => onLane_after (.refl _ u) fun l => .refl _ u
  | talkStatus p m | meterRead p m =>
    exact .command h fun u => onBoundLane_after (.refl _ u) fun l => .refl _ u
  | coeffRead p m =>
    refine .command h fun u => onLane_after (.refl _ u) fun l => ?_
    split
    · exact .refl _ u
    split
    · exact .refl _ u
    split
    · exact .refl _ u
    · rw [readReply_after]
      exact .refl _ u
  | coeffWrite p m =>
    refine .command h fun u => onLane_after (.refl _ u) fun l => ?_
    split
    · exact .refl _ u
    split
    · exact .refl _ u
    split
    · exact .refl _ u
    split
    · exact .refl _ u
    split
    · exact .refl _ u
    split
    · exact .refl _ u
    · exact owned_writeReply p m m u l _ _ _
  | laneConfig p m | talkConfig p m | meterConfig p m =>
    exact .command h fun u => onBoundLane_after (.refl _ u) fun l =>
      ((Steady.refl u).setLane l _ (by exact id)).owned
  | rearm p m =>
    refine .command h fun u => onLane_after (.refl _ u) fun l => ?_
    split
    · exact .refl _ u
    split
    · exact .refl _ u
    · exact ((Steady.refl u).setLane l _ (by simp [rearmedLane])).owned
  | saveCheckpoint p m =>
    exact .command h fun u => onLane_after (.refl _ u) fun l => owned_saveReply _ u l
  | dropCheckpoints p m =>
    refine .command h fun u => onBoundLane_after (.refl _ u) fun l => ?_
    split
    · exact .refl _ u
    · exact (((Steady.refl u).withCheckpoints _).setLane l _ (by exact id)).owned
  | guardConfig p m =>
    refine .command h fun u => onLane_after (.refl _ u) fun l => ?_
    split
    · exact .refl _ u
    split
    · exact .refl _ u
    · exact ((Steady.refl u).setLane l _ (by exact id)).owned

/-- Settles O7: every row changes only what it owns. -/
theorem onlyOwnersChange : Obligations.OnlyOwnersChange :=
  ⟨fun _ _ _ hc hr h => (exec_owned h).epoch hc hr, fun _ _ _ l h => (exec_owned h).lock l,
    fun _ _ _ h => (exec_owned h).map, fun _ _ _ h => (exec_owned h).coefs⟩

end Sys2Proof.Machine
end

section
/-! SUPPORT. The resets and the epoch advance: the state at reset, the invariants there, the pin RESET_N,
and what one advance counts. -/

namespace Sys2Proof.Machine

/-! ## The records at reset -/

@[simp] theorem State.reset_ref (r : RefId) : State.reset.ref r = Reference.reset := by
  simp [State.ref, State.reset]
@[simp] theorem State.reset_realign (r : RefId) : State.reset.realign r = Realign.reset := by
  simp [State.realign, State.reset]
@[simp] theorem State.reset_tracker (r : RefId) : State.reset.tracker r = Tracker.reset := by
  simp [State.tracker, State.reset]
@[simp] theorem State.reset_lane (l : LaneId) : State.reset.lane l = Lane.reset := by
  simp [State.lane, State.reset]
@[simp] theorem State.reset_port (p : Port) : State.reset.port p = PortState.reset := by
  simp [State.port, State.reset]

theorem Store.reset_map (p : PartId) : Store.reset.map[p] = .scrub := by simp [Store.reset]
theorem Store.reset_coefs (p : PartId) : Store.reset.coefs[p] = Vector.replicate 256 0 := by
  simp [Store.reset]

/-- Settles O10: each record at reset is read off its chapter's record, and POWER_ON answers with
`State.powerOnValues`. -/
theorem resetLeavesGivenValues : Obligations.ResetLeavesGivenValues := by
  refine ⟨⟨rfl, fun r => ?_, fun r => ?_, fun r => ?_, fun l => ?_, fun p => ?_, rfl, rfl, rfl, rfl,
    rfl, fun i => ?_, fun p => ?_⟩, fun s => rfl⟩
  · rw [State.reset_ref]
    exact ⟨rfl, rfl, rfl, rfl, rfl, rfl, rfl, rfl, rfl, fun i => by simp [Reference.reset, Slot.reset]⟩
  · exact State.reset_realign r
  · exact State.reset_tracker r
  · exact State.reset_lane l
  · exact ⟨Store.reset_map p, Store.reset_coefs p⟩
  · simp [State.reset, CheckpointStore.reset]
  · rw [State.reset_port]
    exact ⟨rfl, rfl, rfl, rfl⟩

/-! ## The invariants at reset -/

theorem Lane.ok_reset : Lane.reset.ok := by
  simp [Lane.ok, Lane.reset, Guard.reset, Talk.reset]

theorem Notices.ok_reset : Notices.reset.ok := by
  simp [Notices.ok, Notices.reset]

/-- At reset no entry waits, no job is in flight and no countdown ends. -/
theorem lanesOk_reset : State.reset.lanesOk := by
  refine ⟨fun l => ?_, ?_⟩
  · rw [State.reset_lane]
    exact Lane.ok_reset
  · simp [State.workIsBound, State.reset, Engine.reset]

/-- At reset every realign is IDLE and no SHIFT is outstanding. -/
theorem realignsOk_reset : State.reset.realignsOk := by
  refine ⟨fun r => ?_, lanesOk_reset⟩
  have idle : State.reset.shiftsOutstanding r = 0 := rfl
  simp [State.realignOk, idle, Realign.reset]

/-- At reset no partition is FREE and partition 0, being scrubbed, is SCRUB. -/
theorem storeOk_reset : State.reset.store.ok := by
  refine ⟨fun p hp => ?_, fun p _ => Store.reset_map p⟩
  rw [show State.reset.store = Store.reset from rfl, Store.reset_map] at hp
  cases hp

/-- Settles O54: each record at reset is as its chapter says. -/
theorem invariantsHoldAtReset : Obligations.InvariantsHoldAtReset := by
  refine ⟨fun r => ?_, fun r => ?_, lanesOk_reset, realignsOk_reset, storeOk_reset, ?_, fun p => ?_⟩
  · rw [State.reset_ref]
    exact Reference.ok_reset
  · rw [State.reset_tracker]
    exact Tracker.ok_reset
  · exact ⟨List.Pairwise.nil, le_refl 128⟩
  · rw [State.reset_port]
    exact Notices.ok_reset

/-! ## The scrubber's start -/

/-- The scrubber starts on the lowest-numbered SCRUB partition; with none it stays idle (R47, R49). -/
theorem Store.startScrub_lowest (st : Store) :
    (∀ p, st.startScrub.scrub = some p →
        st.map[p] = .scrub ∧ ∀ q : PartId, st.map[q] = .scrub → p ≤ q)
      ∧ (st.startScrub.scrub = none → ∀ q : PartId, st.map[q] ≠ .scrub) := by
  have head : st.startScrub.scrub = (List.finRange 384).find? fun q => st.map[q] == .scrub := by
    simp [Store.startScrub, Store.scrubParts, allParts]
  rw [head]
  refine ⟨fun p hp => ⟨by simpa using List.find?_some hp, fun q hq => ?_⟩, fun hnone q hq => ?_⟩
  · obtain ⟨-, i, hi, hpi, hbefore⟩ := List.find?_eq_some_iff_getElem.mp hp
    have hi' : p.val = i := by rw [← hpi]; simp
    by_contra hlt
    have hqi : q.val < i := by
      rw [← hi']
      exact Nat.lt_of_not_le hlt
    simpa [hq] using hbefore q.val hqi
  · have := List.find?_eq_none.mp hnone q (List.mem_finRange q)
    simp [hq] at this

/-! ## RESET_N -/

/-- What RESET_N leaves as it falls, in the fields that the beginning of an event reads (R49, R155). -/
structure JustReset (s : State) : Prop where
  epoch    : s.epoch = 0
  resetLow : s.resetLow = true
  due      : s.due = []
  scrubbed : s.scrubAbandoned = false
  ports    : s.ports = State.reset.ports
  lanes    : s.lanes = State.reset.lanes
  engine   : s.engine = State.reset.engine
  map      : s.store.map = Store.reset.map
  scrub    : s.store.scrub = none

theorem justReset_of_assert {s t : State} (h : exec .resetNAssert s = .next t) : JustReset t := by
  cases h
  exact ⟨rfl, rfl, rfl, rfl, rfl, rfl, rfl, rfl, rfl⟩

section
variable {s : State} (h : JustReset s)
include h

/-- The lines of a part just reset are released: no pulse is there to end. -/
theorem JustReset.endPulses : s.endPulses = s := by
  have hports : s.endPulses.ports = s.ports := by
    refine Vector.ext fun i hi => ?_
    simp [State.endPulses, h.ports, State.reset, PortState.reset, Notices.reset]
  calc s.endPulses = { s with ports := s.endPulses.ports } := rfl
    _ = s := by rw [hports]

/-- No lane just reset is ready, and no entry waits: the arbiter starts nothing. -/
theorem JustReset.arbitrate : s.arbitrate = s := by
  have idle : s.readyLanes = [] := by
    refine List.filter_eq_nil_iff.mpr fun l _ => ?_
    simp [State.ready, State.lane, h.lanes, State.reset, headEpoch, Lane.reset]
  simp [State.arbitrate, h.engine, State.reset, Engine.reset, State.startOldestPass, idle,
    State.oldest]

/-- An event that follows a fall of RESET_N finds the part as the fall left it. -/
theorem JustReset.beginEvent : s.beginEvent = s := by
  have settled : s.settleEpoch = s := by
    rw [State.settleEpoch, h.due, State.actAll, ← h.due, ← h.scrubbed]
  rw [State.beginEvent, State.beginScrub, State.beginStart, settled, h.endPulses, h.arbitrate,
    h.endPulses, State.settleScrubber, h.resetLow]
  rfl

/-- The scrubber of a part just reset starts on partition 0. -/
theorem JustReset.startScrub : s.store.startScrub = { s.store with scrub := some 0 } := by
  have head : s.store.scrubParts = allParts := by
    refine List.filter_eq_self.mpr fun p _ => ?_
    simp [h.map, Store.reset]
  rw [Store.startScrub, head]
  rfl

end

/-- RESET_N_RELEASE raises the level, and starts an idle scrubber (R49). -/
theorem exec_resetNRelease (s : State) :
    exec .resetNRelease s = .next { s.beginEvent with
      resetLow := false
      store := if s.beginEvent.store.scrub = none then s.beginEvent.store.startScrub
        else s.beginEvent.store } := by
  simp only [exec, execResetNRelease, Option.isNone_iff_eq_none]
  split <;> rfl

/-- EPOCH_ADVANCE is ignored while RESET_N is low (R1). -/
theorem exec_epochAdvance (s : State) :
    exec .epochAdvance s =
      .next (if s.beginEvent.resetLow then s.beginEvent else s.beginEvent.advance) := rfl

/-- A TRANSACTION_START whose words complete no command is ignored while RESET_N is low (R155). -/
theorem exec_transactionStart_low {s : State} (hlow : s.beginEvent.resetLow = true) {p : Port}
    {words : List Word} (hw : decodeCommand p words = none) :
    exec (.transactionStart { port := p, words := words }) s = .next s.beginEvent := by
  simp [exec, execTransactionStart, hw, hlow]

/-- After a fall and a release of RESET_N the first FSYNC edge makes E equal to 1; the scrubber is on
partition 0 meanwhile (R1, R49). -/
theorem JustReset.release {t : State} (h : JustReset t) :
    exec .epochAdvance t = .next t
      ∧ exec .resetNRelease t = .next
          { t with resetLow := false, store := { t.store with scrub := some 0 } }
      ∧ ∀ u v, exec .resetNRelease t = .next u → exec .epochAdvance u = .next v →
          u.epoch = 0 ∧ v.epoch = 1 ∧ v.resetLow = false := by
  have released : exec .resetNRelease t = .next
      { t with resetLow := false, store := { t.store with scrub := some 0 } } := by
    rw [exec_resetNRelease, h.beginEvent, if_pos h.scrub, h.startScrub]
  refine ⟨?_, released, fun u v hu hv => ?_⟩
  · rw [exec_epochAdvance, h.beginEvent, if_pos h.resetLow]
  · rw [released] at hu
    cases hu
    have begun := begun_beginEvent
      { t with resetLow := false, store := { t.store with scrub := some 0 } }
    rw [exec_epochAdvance, if_neg (by rw [begun.resetLow]; exact Bool.false_ne_true)] at hv
    cases hv
    refine ⟨h.epoch, ?_, begun.resetLow⟩
    rw [State.advance_epoch, begun.epoch]
    exact congrArg (· + 1) h.epoch

/-- Settles O11: the assertion is the reset by definition, the rows of the level by RESET_N low, and what
it leaves is `JustReset` until the release. -/
theorem resetPinTable : Obligations.ResetPinTable := by
  refine ⟨⟨fun s => rfl, fun s hlow => ⟨?_, rfl, fun p words hw => exec_transactionStart_low hlow hw⟩⟩,
    fun s => ?_, fun s t ht => (justReset_of_assert ht).release⟩
  · rw [exec_epochAdvance, if_pos hlow]
  · have lowest := Store.startScrub_lowest s.beginEvent.store
    refine ⟨if s.beginEvent.store.scrub = none then s.beginEvent.store.startScrub.scrub
      else s.beginEvent.store.scrub, ?_, fun h => if_neg h, fun h p hp => ?_, fun h hnone => ?_⟩
    · rw [exec_resetNRelease]
      split <;> rfl
    · exact lowest.1 p (by rwa [if_pos h] at hp)
    · exact lowest.2 (by rwa [if_pos h] at hnone)

/-! ## The epoch advance -/

theorem mem_allRefs (r : RefId) : r ∈ allRefs := by
  revert r
  decide

/-- The rows of a reference that an advance makes due (R12, R99, R102). -/
theorem State.ref_mem_actionsDue (s : State) (r : RefId) :
    .onsetAge r ∈ s.actionsDue ∧ .resolve r ∈ s.actionsDue ∧ .changeAge r ∈ s.actionsDue
      ∧ (.holdEnd r ∈ s.actionsDue ↔ (s.realign r).hold = 1) := by
  simp [State.actionsDue, mem_allRefs, State.holdEnds]

/-- The rows of a lane that an advance makes due (R28, R122, R128). -/
theorem State.lane_mem_actionsDue (s : State) (l : LaneId) :
    .expire l ∈ s.actionsDue ∧ .acceptedAge l ∈ s.actionsDue ∧ .saveAge l ∈ s.actionsDue
      ∧ (.retryEnd l ∈ s.actionsDue ↔
          (s.lane l).state = .tripped ∧ (s.lane l).guard.retry = some 1) := by
  simp [State.actionsDue, allLanes, State.retryEnds]

/-- Settles O13: the advance counts in the records and in the engine alone, field by field. -/
theorem epochAdvanceCountsOne : Obligations.EpochAdvanceCountsOne := by
  intro s u hlow
  refine ⟨u.advance, by rw [exec_epochAdvance, if_neg (by simpa using hlow)], ?_, rfl, fun r => ?_,
    fun l => ?_, fun r => ?_, fun l => ?_, rfl, rfl, rfl, rfl, rfl, rfl⟩
  · rw [State.advance_epoch]
    simp [BitVec.toNat_add]
  · rw [State.advance_realign, holdTick_eq]
  · exact (u.advance_lane l).trans (retryTick_eq _)
  · exact u.ref_mem_actionsDue r
  · exact u.lane_mem_actionsDue l

end Sys2Proof.Machine
end

section
/-! SUPPORT. The commands of the Reference History: which ports may send them, what each answers, and what
the ring reads as after a deactivation. -/

namespace Sys2Proof.Machine

/-! ## Ports and answers -/

theorem feeds_iff (p : Port) (r : RefId) :
    feeds p r = true ↔ (p = .portR ∧ (r = 0 ∨ r = 1)) ∨ (p = .portM ∧ r = 2) := by
  cases p <;> revert r <;> decide

theorem mayDeclare_iff (p : Port) (r : RefId) :
    mayDeclare p r = true ↔ p = .portS ∨ (p = .portR ∧ (r = 0 ∨ r = 1)) ∨ (p = .portM ∧ r = 2) := by
  rw [mayDeclare, Bool.or_eq_true, feeds_iff, beq_iff_eq]

/-- A command taken whose target is the reference `r` is answered `a`, if its owner answers `a`. -/
theorem takeCommand_onRef {k : Kind} {p : Port} {m : Message} {s : State} {r : RefId}
    {f : State → RefId → Reply} (h : s.takes k p m) (hr : m.namesRef r) {a : Reply}
    (ha : f s.beginEvent r = a) :
    takeCommand k p m s (fun u => onRef m u (f u)) =
      .next (a.after.respond p (kindCode k) a.status a.payload) := by
  rw [takeCommand_taken h, onRef_names hr, ha]

/-! ## DECLARE REF -/

section
variable {p : Port} {m : Message} {s : State} {r : RefId} (h : s.takes .declareRef p m)
  (hr : m.namesRef r)
include h hr

/-- DECLARE REF on a port that may not declare the reference (R7). -/
theorem exec_declareRef_wrongPort (hp : ¬mayDeclare p r = true) :
    exec (.declareRef p m) s = .next (s.beginEvent.respond p 0x10 .wrongPort []) :=
  takeCommand_onRef h hr (a := refuse .wrongPort s.beginEvent) (by simp [hp])

/-- DECLARE REF with an action other than 0 or 1 (R7). -/
theorem exec_declareRef_badArg (hp : mayDeclare p r = true) (ha : 2 ≤ argNat m 0) :
    exec (.declareRef p m) s = .next (s.beginEvent.respond p 0x10 .badArg []) :=
  takeCommand_onRef h hr (a := refuse .badArg s.beginEvent) (by simp [hp, flagArg_none ha])

/-- DECLARE REF activate (R8). -/
theorem exec_declareRef_activate (hp : mayDeclare p r = true) (ha : argNat m 0 = 1) :
    exec (.declareRef p m) s =
      .next ((s.beginEvent.declareActive r).respond p 0x10 .ok []) :=
  takeCommand_onRef h hr (a := answer [] (s.beginEvent.declareActive r)) (by simp [hp, flagArg_one ha])

/-- DECLARE REF deactivate (R9). -/
theorem exec_declareRef_deactivate (hp : mayDeclare p r = true) (ha : argNat m 0 = 0) :
    exec (.declareRef p m) s = .next ((declareInactive s.beginEvent r).after.respond p 0x10
      (declareInactive s.beginEvent r).status (declareInactive s.beginEvent r).payload) :=
  takeCommand_onRef h hr (a := declareInactive s.beginEvent r) (by simp [hp, flagArg_zero ha])

end

/-- A reference no slot of which is filled with DATA reads as zero (R4). -/
theorem reads_zero_of_no_data {x : Reference} (h : ∀ p, holdsData x p = false) :
    (∀ n, readSample x n = 0) ∧ ∀ e, readPeak x e = 0 ∧ readEnergy x e = 0 := by
  simp [readSample, readPeak, readEnergy, h]

theorem holdsData_deactivate (x : Reference) (p : Epoch) : holdsData (deactivate x) p = false := by
  simp [holdsData, slotFor, deactivate, clearFills]

/-- Settles O16: the clauses follow the order in which the owner checks the port, the action and the
state of the reference; a deactivated ring holds no DATA. -/
theorem declareRefTable : Obligations.DeclareRefTable := by
  refine ⟨fun p m s r h hr => ?_, fun m s t r h hr ha hstate hidle ht => ?_⟩
  · intro u x declares
    have declares_iff : mayDeclare p r = true ↔ declares := mayDeclare_iff p r
    refine ⟨fun hp => ?_, fun hp ha => ?_, fun hp ha => ?_, fun hp ha hx => ?_,
      fun hp ha hx hshift => ?_, fun hp ha hx hidle => ?_⟩
    · exact exec_declareRef_wrongPort h hr (declares_iff.not.mpr hp)
    · exact exec_declareRef_badArg h hr (declares_iff.mpr hp) ha
    · exact exec_declareRef_activate h hr (declares_iff.mpr hp) ha
    · rw [exec_declareRef_deactivate h hr (declares_iff.mpr hp) ha, declareInactive, if_pos hx]
      rfl
    · rw [exec_declareRef_deactivate h hr (declares_iff.mpr hp) ha, declareInactive, if_neg hx,
        if_pos hshift]
      rfl
    · rw [exec_declareRef_deactivate h hr (declares_iff.mpr hp) ha, declareInactive, if_neg hx,
        if_neg (by rw [hidle]; decide)]
      rfl
  · rw [exec_declareRef_deactivate h hr ((mayDeclare_iff _ _).mpr (.inl rfl)) ha, declareInactive,
      if_neg hstate, if_neg (by rw [hidle]; decide)] at ht
    cases ht
    have hx : (answer [] ((s.beginEvent.setRef r (deactivate (s.beginEvent.ref r))).setTracker r
        (discardProgress (s.beginEvent.tracker r)))).after.ref r =
        deactivate (s.beginEvent.ref r) := by simp
    rw [State.respond_ref, hx]
    exact ⟨rfl, reads_zero_of_no_data (holdsData_deactivate _)⟩

/-! ## REF CONFIG and REF STATUS -/

/-- Settles O18: the owner's branches in their order, and the ten words read off the record. -/
theorem refConfigAndStatus : Obligations.RefConfigAndStatus := by
  refine ⟨fun m s r h hr => ?_, fun p m s r h hr => ?_⟩
  · intro u x w
    refine ⟨fun hz => ?_, fun z hz hm => ?_⟩
    · exact takeCommand_onRef h hr (a := refuse .badArg s.beginEvent) (by simp [flagArg_none hz])
    · have hclear : flagArg m 1 = some (decide (z = 1)) := by rw [flagArg_le (hm ▸ hz), hm]
      have hclamped : clamped m 0 1 4 = !decide ((argWord m 0).toInt = w) := by
        simp only [clamped, ne_eq, decide_not]
        rfl
      refine (takeCommand_onRef h hr
        (a := configured (!decide ((argWord m 0).toInt = w))
          (if !decide ((argWord m 0).toInt = w) then [wordOf w] else [])
          (u.setRef r (configureRef x w (decide (z = 1))))) ?_).trans ?_
      · simp only [hclear, hclamped]
        rfl
      · have hstored : configureRef x w (decide (z = 1)) = { x with
            wait := w
            totalGaps := if z = 1 then 0 else x.totalGaps
            lateRefusals := if z = 1 then 0 else x.lateRefusals
            earlyRefusals := if z = 1 then 0 else x.earlyRefusals } := by
          by_cases h1 : z = 1 <;> simp [configureRef, h1]
        rw [hstored]
        by_cases hw : (argWord m 0).toInt = w <;> simp [hw] <;> rfl
  · intro u x present
    have hpresent : ∀ o, optEpoch o = present o := by
      intro o
      cases o <;> rfl
    refine (takeCommand_onRef h hr (a := answer (refReport u r) u) rfl).trans ?_
    have hreport : refReport u r = [u.epoch, refStateCode x.state, wordOf x.wait]
        ++ present x.resolution ++ present x.newest
        ++ [wordOf x.consecutiveGaps, wordOf x.continuous, x.totalGaps, x.lateRefusals,
          x.earlyRefusals] := by
      rw [← hpresent, ← hpresent]
      rfl
    rw [answer_payload, hreport]
    cases x.state <;> rfl

/-! ## HISTORY READ -/

/-- The word at place `i` of the samples of a HISTORY READ (R19). -/
theorem historyWords_sample (x : Reference) (a : Nat) {n i : Nat} (hi : i < n) :
    (historyWords x a n)[i + 2]? = some (ringSample x ((a + i) % 16384)) := by
  simp [historyWords, hi]

/-- A ring address that is the first one moved on by `i`, modulo the ring's 16384 samples (R18). -/
theorem ringStart_add {e : Epoch} {d : Int} {i : Nat} {a : Fin 16384}
    (h : ((a.val : Int) - ((e.toNat % 128 * 128 : Nat) + d + i)) % 16384 = 0) :
    (ringStart e d + i) % 16384 = a.val := by
  simp only [ringStart]
  omega

/-- Settles O19: the owner's range checks in their order, and then the words of the response. -/
theorem historyReadReturnsStoredSamples : Obligations.HistoryReadReturnsStoredSamples := by
  intro p m s r h hr u x d code
  refine ⟨fun hbad => ?_, fun hlo hhi hcode => ?_⟩
  · refine takeCommand_onRef h hr (a := refuse .badArg u) (if_pos ?_)
    exact hbad
  · refine ⟨historyWords x (ringStart (argWord m 0) d) (code + 1),
      takeCommand_onRef h hr (a := answer (historyWords x (ringStart (argWord m 0) d) (code + 1)) u)
        (if_neg ?_), by simp [historyWords], fun i a hi ha => ?_⟩
    · change ¬(d < -16384 ∨ 16383 < d ∨ 255 < code)
      omega
    · have haddr := ringStart_add ha
      have hslot : a.val / 128 % 128 = a.val / 128 := Nat.mod_eq_of_lt (by omega)
      refine ⟨?_, ?_⟩
      · rw [historyWords_sample x _ (by omega), haddr]
        simp only [ringSample, hslot]
      · rintro rfl
        have hstart : ringStart (argWord m 0) d = a.val := by
          rw [← haddr, Nat.add_zero, Nat.mod_eq_of_lt]
          simp only [ringStart]
          omega
        simp only [historyWords, hstart, ringSlot, hslot]
        exact ⟨rfl, rfl⟩

end Sys2Proof.Machine
end

section
/-! SUPPORT. REF FRAME: the order of its refusals, and what an accepted frame leaves. -/

namespace Sys2Proof.Machine

/-! ## Absolute sample indices -/

/-- The absolute index of a sample (section 1.1). -/
theorem sampleIndex_toNat (e : Epoch) (i : Int) :
    ((sampleIndex e i).toNat : Int) = (128 * e.toNat + i) % 8388608 := by
  rw [sampleIndex, BitVec.toNat_ofInt]
  omega

/-- A sample of the frame of epoch `e` belongs to that epoch, at its place in the frame. -/
theorem indexEpoch_sampleIndex (e : Epoch) (i : Fin 128) :
    indexEpoch (sampleIndex e i.val) = e ∧ indexOffset (sampleIndex e i.val) = i := by
  have hn := sampleIndex_toNat e i.val
  have he := e.isLt
  refine ⟨BitVec.eq_of_toNat_eq ?_, Fin.ext ?_⟩
  · simp only [indexEpoch, BitVec.toNat_ofNat]
    omega
  · simp only [indexOffset]
    omega

/-! ## Peaks and energies -/

theorem foldl_max_le (l : List Nat) (v : Nat) :
    ∀ a, l.foldl max a ≤ v ↔ a ≤ v ∧ ∀ x ∈ l, x ≤ v := by
  induction l with
  | nil => simp
  | cons x l ih =>
    intro a
    rw [List.foldl_cons, ih]
    simp [and_assoc]

theorem Vector.toList_eq_map_finRange {α : Type} {n : Nat} (v : Vector α n) :
    v.toList = (List.finRange n).map fun i => v[i] := by
  refine List.ext_getElem (by simp) fun i _ _ => ?_
  simp

theorem peakOf_le (f : Frame) (v : Nat) : peakOf f ≤ v ↔ ∀ i : Fin 128, (f[i]).toInt.natAbs ≤ v := by
  rw [peakOf, foldl_max_le, Vector.toList_eq_map_finRange]
  simp

theorem energyOf_eq (f : Frame) :
    energyOf f = ((List.finRange 128).map fun i : Fin 128 => (f[i]).toInt.natAbs ^ 2).sum := by
  rw [energyOf, Vector.toList_eq_map_finRange, List.map_map]
  rfl

/-! ## The refusals, in order (R10) -/

theorem beforeResolution_iff (x : Reference) (e : Epoch) :
    beforeResolution x e = true ↔ ∃ n, x.resolution = some n ∧ isAfter n e = true := by
  rw [beforeResolution]
  split <;> simp_all

theorem holdsGap_iff (x : Reference) (e : Epoch) :
    holdsGap x e = true ↔ (slotFor x e).epoch = e ∧ (slotFor x e).fill = .gap := by
  simp [holdsGap]

theorem holdsData_iff (x : Reference) (e : Epoch) :
    holdsData x e = true ↔ (slotFor x e).epoch = e ∧ (slotFor x e).fill = .data := by
  simp [holdsData]

/-- The frame is LATE: its epoch is W or more behind, before the resolution point, or a recorded gap
(R10). -/
def lateFrame (u : State) (x : Reference) (e : Epoch) : Prop :=
  (x.wait : Int) ≤ behind u.epoch e
    ∨ (∃ n, x.resolution = some n ∧ isAfter n e = true)
    ∨ ((slotFor x e).epoch = e ∧ (slotFor x e).fill = .gap)

section
variable {u : State} {r : RefId} {e : Epoch} (f : Frame)

theorem frameReply_inactive (hx : (u.ref r).state = .inactive) :
    frameReply u r e f = refuse .wrongState u := if_pos hx

theorem frameReply_early (hx : (u.ref r).state ≠ .inactive) (he : 2 < ahead u.epoch e) :
    frameReply u r e f = refuse .early (u.countEarly r) := by
  simp only [frameReply, if_neg hx, if_pos he]

theorem frameReply_late (hx : (u.ref r).state ≠ .inactive) (he : ahead u.epoch e ≤ 2)
    (hl : lateFrame u (u.ref r) e) : frameReply u r e f = refuse .late (u.countLate r) := by
  simp only [frameReply, if_neg hx, if_neg (not_lt.mpr he), beforeResolution_iff, holdsGap_iff]
  split
  · rfl
  · rename_i hn
    rw [if_pos]
    exact ((or_assoc.mpr hl).resolve_left hn)

theorem frameReply_taken (hx : (u.ref r).state ≠ .inactive) (he : ahead u.epoch e ≤ 2)
    (hl : ¬lateFrame u (u.ref r) e) :
    frameReply u r e f = if holdsData (u.ref r) e then refuse .duplicate u
      else answer [] (u.acceptReference r e f) := by
  have hl' := fun h => hl (or_assoc.mp h)
  simp only [frameReply, if_neg hx, if_neg (not_lt.mpr he), beforeResolution_iff, holdsGap_iff]
  rw [if_neg fun h => hl' (.inl h), if_neg fun h => hl' (.inr h)]

end

/-! ## An accepted frame (R11, R14) -/

section
variable (u : State) (r : RefId) (e : Epoch) (f : Frame)

/-- The state an accepted frame leaves, REF_RESUME raised for a STALLED reference. -/
theorem State.acceptReference_eq :
    u.acceptReference r e f =
      (((if (u.ref r).state = .stalled then u.raiseRef .refResume r else u).setRef r
        (acceptFrame (u.ref r) e f)).setTracker r
          (trackReference (u.tracker r) e f (peakOf f))) := by
  simp only [State.acceptReference]
  split
  · simp
    rfl
  · simp

theorem State.acceptReference_ref (q : RefId) : (u.acceptReference r e f).ref q =
    if q = r then acceptFrame (u.ref r) e f else u.ref q := by
  rw [State.acceptReference_eq, State.setTracker_ref, State.ref_setRef]
  congr 1
  split <;> simp

theorem State.acceptReference_tracker (q : RefId) : (u.acceptReference r e f).tracker q =
    if q = r then trackReference (u.tracker r) e f (peakOf f) else u.tracker q := by
  rw [State.acceptReference_eq, State.tracker_setTracker, State.setRef_tracker]
  congr 1
  split <;> simp

/-- An accepted frame touches no other block of the part. -/
theorem State.acceptReference_frame :
    (u.acceptReference r e f).lanes = u.lanes ∧ (u.acceptReference r e f).store = u.store
      ∧ (u.acceptReference r e f).realigns = u.realigns
      ∧ (u.acceptReference r e f).engine = u.engine
      ∧ (u.acceptReference r e f).checkpoints = u.checkpoints
      ∧ (u.acceptReference r e f).epoch = u.epoch := by
  rw [State.acceptReference_eq]
  split <;> simp

/-- A response depends on the ports alone. -/
theorem State.respond_ports_congr {s t : State} (h : s.ports = t.ports) (p : Port) (c : Byte)
    (st : Status) (ws : List Word) : (s.respond p c st ws).ports = (t.respond p c st ws).ports := by
  simp [State.respond, State.setDecoder, State.setPort, State.port, h]

end

/-- The slot of an accepted frame is written whole. -/
theorem slotFor_acceptFrame (x : Reference) (e : Epoch) (f : Frame) :
    slotFor (acceptFrame x e f) e =
      { epoch := e, fill := .data, samples := f, peak := peakOf f, energy := energyOf f } := by
  simp [slotFor, acceptFrame]

theorem holdsData_acceptFrame (x : Reference) (e : Epoch) (f : Frame) :
    holdsData (acceptFrame x e f) e = true := by
  simp [holdsData_iff, slotFor_acceptFrame]

theorem readSample_acceptFrame (x : Reference) (e : Epoch) (f : Frame) (i : Fin 128) :
    readSample (acceptFrame x e f) (sampleIndex e i.val) = (f[i]).toInt := by
  obtain ⟨hepoch, hoffset⟩ := indexEpoch_sampleIndex e i
  simp [readSample, hepoch, hoffset, holdsData_acceptFrame, slotFor_acceptFrame]

/-- An accepted frame ends a stall (R14). -/
theorem acceptFrame_state {x : Reference} (hx : x.state ≠ .inactive) (e : Epoch) (f : Frame) :
    (acceptFrame x e f).state = .active := by
  cases h : x.state <;> simp_all [acceptFrame]

theorem acceptFrame_newest (x : Reference) (e : Epoch) (f : Frame) :
    (acceptFrame x e f).newest = some (match x.newest with
      | none => e
      | some d => if isAfter e d = true then e else d) := by
  cases h : x.newest <;> simp [acceptFrame, newestAfter, h]

/-- Settles O17: the refusals by R10's order, and the accepted frame's record, tracker and notice by the
lemmas on `State.acceptReference`. -/
theorem refFrameTable : Obligations.RefFrameTable := by
  refine ⟨fun p m s r h hr => ?_, fun p m s r h hr => ?_, peakOf_le, energyOf_eq⟩
  · intro u x e feeds' slot late
    have fed : feeds p r = true ↔ feeds' := feeds_iff p r
    have answered {a : Reply} (hf : feeds') (ha : frameReply u r e (argFrame m 1) = a) :
        exec (.refFrame p m) s = .next (a.after.respond p 0x11 a.status a.payload) :=
      takeCommand_onRef h hr (a := a) (by simpa [fed.mpr hf] using ha)
    refine ⟨fun hf => ?_, fun hf hx => ?_, fun hf hx he => ?_, fun hf hx he hl => ?_,
      fun hf hx he hl hd => ?_⟩
    · exact takeCommand_onRef h hr (a := refuse .wrongPort u) (if_pos (by simpa [← fed] using hf))
    · exact answered hf (frameReply_inactive _ hx)
    · exact answered hf (frameReply_early _ hx he)
    · exact answered hf (frameReply_late _ hx he hl)
    · refine answered hf ((frameReply_taken _ hx he hl).trans (if_pos ?_))
      exact (holdsData_iff x e).mpr hd
  · intro u x e f hf hx he hb hres hslot
    have free : ¬lateFrame u x e := by
      rintro (hl | ⟨n, hn, hafter⟩ | ⟨hep, hgap⟩)
      · omega
      · simp [hres n hn] at hafter
      · exact hslot ⟨hep, by simp [hgap]⟩
    have empty : ¬holdsData x e = true := fun hd =>
      hslot ⟨((holdsData_iff x e).mp hd).1, by simp [((holdsData_iff x e).mp hd).2]⟩
    have accepted : frameReply u r e f = answer [] (u.acceptReference r e f) :=
      (frameReply_taken f hx he free).trans (if_neg empty)
    obtain ⟨hlanes, hstore, hrealigns, hengine, hcheck, hepoch⟩ := u.acceptReference_frame r e f
    refine ⟨(u.acceptReference r e f).respond p 0x11 .ok [], takeCommand_onRef h hr
      (a := answer [] (u.acceptReference r e f)) ?_, ?_⟩
    · rw [if_neg (by simpa [feeds_iff] using hf)]
      exact accepted
    simp only [State.respond_ref, State.respond_tracker, State.acceptReference_ref,
      State.acceptReference_tracker, if_true]
    refine ⟨acceptFrame_state hx e f, rfl, rfl, acceptFrame_newest x e f, rfl, rfl, rfl, rfl, rfl,
      slotFor_acceptFrame x e f, readSample_acceptFrame x e f, ?_, ?_, fun i hi => ?_, trivial,
      fun q hq => ⟨if_neg hq, if_neg hq⟩, ?_, hlanes, hstore, hrealigns, hengine, hcheck, hepoch⟩
    · rw [readPeak, if_pos (holdsData_acceptFrame x e f), slotFor_acceptFrame]
    · rw [readEnergy, if_pos (holdsData_acceptFrame x e f), slotFor_acceptFrame]
    · have hne : (slotOf e).val ≠ i.val := fun hv => hi (Fin.ext hv.symm)
      simp [acceptFrame, hne, x]
    · refine State.respond_ports_congr ?_ _ _ _ _
      rw [State.acceptReference_eq]
      rfl

end Sys2Proof.Machine
end

section
/-! SUPPORT. Gaps recorded one after another, in closed form (R12, R13, R100). -/

namespace Sys2Proof.Machine

/-! ## Updates of different records commute -/

theorem State.setTracker_setRef (s : State) (r q : RefId) (x : Reference) (t : Tracker) :
    (s.setTracker q t).setRef r x = (s.setRef r x).setTracker q t := rfl

theorem State.raiseRef_setRef (s : State) (k : NoticeKind) (r q : RefId) (x : Reference) :
    (s.setRef q x).raiseRef k r = (s.raiseRef k r).setRef q x := rfl

theorem State.raiseRef_setTracker (s : State) (k : NoticeKind) (r q : RefId) (t : Tracker) :
    (s.setTracker q t).raiseRef k r = (s.raiseRef k r).setTracker q t := rfl

/-! ## Event counters -/

theorem countUp_toNat (c : Counter) (n : Nat) : (countUp c n).toNat = min 65535 (c.toNat + n) := by
  simp only [countUp, BitVec.toNat_ofNat]
  omega

theorem countUp_countUp (c : Counter) (m n : Nat) : countUp (countUp c m) n = countUp c (m + n) := by
  refine BitVec.eq_of_toNat_eq ?_
  simp only [countUp_toNat]
  omega

@[simp] theorem countUp_zero (c : Counter) : countUp c 0 = c := by
  refine BitVec.eq_of_toNat_eq ?_
  have := c.isLt
  rw [countUp_toNat]
  omega

/-! ## Several gaps in closed form -/

/-- The slot of a recorded gap (R12). -/
def gapSlot (p : Epoch) : Slot :=
  { epoch := p, fill := .gap, samples := silence, peak := 0, energy := 0 }

/-- The ring after the gaps `ps` are recorded, oldest first. -/
def gapRing (ring : Vector Slot 128) (ps : List Epoch) : Vector Slot 128 :=
  ps.foldl (fun v p => v.set (slotOf p) (gapSlot p)) ring

/-- `n` further gaps stall the reference (R13). -/
abbrev stallsAfter (x : Reference) (n : Nat) : Prop :=
  x.state = .active ∧ n ≠ 0 ∧ 4 ≤ x.consecutiveGaps + n

/-- The record that the gaps `ps` leave (R12, R13). -/
def gapsRecord (x : Reference) (ps : List Epoch) : Reference :=
  { x with
    state := if stallsAfter x ps.length then .stalled else x.state
    ring := gapRing x.ring ps
    totalGaps := countUp x.totalGaps ps.length
    consecutiveGaps := if ps = [] then x.consecutiveGaps else min 4 (x.consecutiveGaps + ps.length)
    continuous := if ps = [] then x.continuous else 0 }

/-- The tracker hears a gap, numbered among the gaps of this resolution, and restarts after number `j`,
the one that stalls an ACTIVE reference (R100). -/
def hearGap (x : Reference) (j : Nat) (t : Tracker) (q : Epoch × Nat) : Tracker :=
  let t' := trackReference t q.1 silence 0
  if x.state = .active ∧ q.2 = j ∧ t'.state ≠ .off then disarm t' else t'

theorem hearGap_stalling {x : Reference} (hx : x.state = .active) (t : Tracker) (p : Epoch) (j : Nat) :
    hearGap x j t (p, j) = discardProgress (trackReference t p silence 0) := by
  by_cases h : (trackReference t p silence 0).state = .off <;>
    simp [hearGap, discardProgress, hx, h]

theorem hearGap_passing {x : Reference} {j : Nat} {q : Epoch × Nat}
    (h : ¬(x.state = .active ∧ q.2 = j)) (t : Tracker) :
    hearGap x j t q = trackReference t q.1 silence 0 :=
  if_neg fun hc => h ⟨hc.1, hc.2.1⟩

/-- Two references of which neither stalls at a gap to come make the tracker hear the same. -/
theorem foldl_hearGap_passing {x y : Reference} {j k : Nat} (hx : x.state = .active → j < k)
    (hy : y.state ≠ .active) (ps : List Epoch) (t : Tracker) :
    (ps.zipIdx k).foldl (hearGap y j) t = (ps.zipIdx k).foldl (hearGap x j) t := by
  refine List.foldl_ext _ _ _ fun t q hq => ?_
  have hk : k ≤ q.2 := List.le_snd_of_mem_zipIdx hq
  rw [hearGap_passing fun hc => hy hc.1,
    hearGap_passing fun hc => absurd (hx hc.1) (by omega)]

theorem gapsRecord_nil (x : Reference) : gapsRecord x [] = x := by
  have go : ¬stallsAfter x 0 := fun h => h.2.1 rfl
  simp [gapsRecord, gapRing, go]

/-- One gap and then `ps` more count as many together, stopping at 4. -/
theorem gapCount_cons (c : Nat) (ps : List Epoch) :
    (if ps = [] then min 4 (c + 1) else min 4 (min 4 (c + 1) + ps.length)) =
      min 4 (c + (ps.length + 1)) := by
  cases ps with
  | nil => simp
  | cons q qs =>
    rw [if_neg (List.cons_ne_nil q qs), List.length_cons]
    omega

/-- The record after a first gap that stalls, and then the others. -/
theorem gapsRecord_stalled {x : Reference} (hx : x.state = .active) (hc : 3 ≤ x.consecutiveGaps)
    (p : Epoch) (ps : List Epoch) :
    gapsRecord { recordGap x p with state := .stalled } ps = gapsRecord x (p :: ps) := by
  have stalls : stallsAfter x (ps.length + 1) := ⟨hx, by simp, by omega⟩
  simp only [gapsRecord, recordGap, List.length_cons, if_pos stalls, if_neg (List.cons_ne_nil p ps),
    gapCount_cons, countUp_countUp, Nat.add_comm 1, ite_self]
  rfl

/-- The record after a first gap that does not stall, and then the others. -/
theorem gapsRecord_going {x : Reference} (hc : x.state = .active → x.consecutiveGaps < 3)
    (p : Epoch) (ps : List Epoch) :
    (stallsAfter (recordGap x p) ps.length ↔ stallsAfter x (p :: ps).length)
      ∧ gapsRecord (recordGap x p) ps = gapsRecord x (p :: ps) := by
  have stalls : stallsAfter (recordGap x p) ps.length ↔ stallsAfter x (p :: ps).length := by
    simp only [stallsAfter, recordGap, List.length_cons]
    constructor
    · rintro ⟨hx, hn, h4⟩
      have := hc hx
      exact ⟨hx, by omega, by omega⟩
    · rintro ⟨hx, -, h4⟩
      have := hc hx
      exact ⟨hx, by omega, by omega⟩
  refine ⟨stalls, ?_⟩
  simp only [gapsRecord, if_congr stalls rfl rfl]
  simp only [recordGap, List.length_cons, if_neg (List.cons_ne_nil p ps), gapCount_cons,
    countUp_countUp, Nat.add_comm 1, ite_self]
  rfl

/-- Gaps recorded one after another: the record of `gapsRecord`, REF_STALL at most once, and the tracker
after each gap in turn. The first of them has number `k`, and number `j` is the one that stalls. -/
theorem State.foldl_gap (r : RefId) (ps : List Epoch) :
    ∀ (s : State) (k j : Nat),
      ((s.ref r).state = .active → j = k + (3 - (s.ref r).consecutiveGaps)) →
      ps.foldl (fun t p => t.gap r p) s =
        ((if stallsAfter (s.ref r) ps.length then s.raiseRef .refStall r else s).setRef r
          (gapsRecord (s.ref r) ps)).setTracker r
            ((ps.zipIdx k).foldl (hearGap (s.ref r) j) (s.tracker r)) := by
  induction ps with
  | nil =>
    intro s k j _
    have go : ¬stallsAfter (s.ref r) ([] : List Epoch).length := fun h => h.2.1 rfl
    rw [if_neg go, gapsRecord_nil]
    simp
  | cons p ps ih =>
    intro s k j hj
    rw [List.foldl_cons, List.zipIdx_cons, List.foldl_cons]
    by_cases hstall : (recordGap (s.ref r) p).state = .active
        ∧ (recordGap (s.ref r) p).consecutiveGaps = 4
    · have hactive : (s.ref r).state = .active := hstall.1
      have hthree : 3 ≤ (s.ref r).consecutiveGaps := by
        have hfour : min 4 ((s.ref r).consecutiveGaps + 1) = 4 := hstall.2
        omega
      have hjk : j = k := by
        have := hj hactive
        omega
      subst hjk
      have hgap : s.gap r p = ((s.setRef r { recordGap (s.ref r) p with state := .stalled }).setTracker r
          (discardProgress (trackReference (s.tracker r) p silence 0))).raiseRef .refStall r := by
        simp only [State.gap, if_pos hstall]
      rw [hgap, ih _ (j + 1) j (by simp), hearGap_stalling hactive]
      simp only [State.raiseRef_ref, State.raiseRef_tracker, State.setTracker_ref,
        State.ref_setRef_self, State.tracker_setTracker_self]
      rw [foldl_hearGap_passing (x := s.ref r) (fun _ => Nat.lt_succ_self j) (by simp),
        gapsRecord_stalled hactive hthree,
        if_neg (fun h : stallsAfter { recordGap (s.ref r) p with state := .stalled } ps.length =>
          by cases h.1),
        if_pos (⟨hactive, by simp, by simp; omega⟩ : stallsAfter (s.ref r) (p :: ps).length)]
      simp only [State.raiseRef_setTracker, State.raiseRef_setRef, State.setTracker_setRef,
        State.setRef_setRef, State.setTracker_setTracker]
    · have hgo : (s.ref r).state = .active → (s.ref r).consecutiveGaps < 3 := by
        intro hactive
        have hne : min 4 ((s.ref r).consecutiveGaps + 1) ≠ 4 := fun h => hstall ⟨hactive, h⟩
        omega
      have hgap : s.gap r p = (s.setRef r (recordGap (s.ref r) p)).setTracker r
          (trackReference (s.tracker r) p silence 0) := by
        simp only [State.gap, if_neg hstall]
      obtain ⟨stalls, record⟩ := gapsRecord_going hgo p ps
      rw [hgap, ih _ (k + 1) j ?_, hearGap_passing ?_]
      · simp only [State.setTracker_ref, State.ref_setRef_self, State.tracker_setTracker_self]
        have hear : hearGap (recordGap (s.ref r) p) j = hearGap (s.ref r) j := rfl
        rw [record, hear, if_congr stalls rfl rfl]
        split <;>
          simp only [State.raiseRef_setTracker, State.raiseRef_setRef, State.setTracker_setRef,
            State.setRef_setRef, State.setTracker_setTracker]
      · rintro ⟨hactive, hk⟩
        have := hj hactive
        have := hgo hactive
        dsimp only at hk
        omega
      · simp only [State.setTracker_ref, State.ref_setRef_self]
        intro hactive
        have hx : (s.ref r).state = .active := hactive
        have := hj hx
        have := hgo hx
        simp only [recordGap]
        omega

end Sys2Proof.Machine
end

section
/-! SUPPORT. The epochs that one resolution resolves, and EPOCH_RESOLUTION. -/

namespace Sys2Proof.Machine

/-! ## Consecutive epochs -/

/-- The `n` epochs from `p` on, oldest first. -/
def epochsFrom (p : Epoch) (n : Nat) : List Epoch :=
  (List.range n).map fun i => p + BitVec.ofNat 16 i

theorem epochsFrom_succ (p : Epoch) (n : Nat) :
    epochsFrom p (n + 1) = p :: epochsFrom (p + 1) n := by
  simp only [epochsFrom, List.range_succ_eq_map, List.map_cons, List.map_map]
  refine List.cons_eq_cons.mpr ⟨by simp, List.map_congr_left fun i _ => BitVec.eq_of_toNat_eq ?_⟩
  simp [BitVec.toNat_add]
  omega

/-- At most 128 consecutive epochs lie in different slots (R3). -/
theorem pairwise_slotOf_epochsFrom (p : Epoch) {n : Nat} (h : n ≤ 128) :
    (epochsFrom p n).Pairwise fun a b => slotOf a ≠ slotOf b := by
  refine List.pairwise_map.mpr (List.pairwise_lt_range.imp_of_mem ?_)
  intro i j hi hj hlt heq
  have hin := List.mem_range.mp hi
  have hjn := List.mem_range.mp hj
  have hslot := congrArg Fin.val heq
  simp only [slotOf, BitVec.toNat_add, BitVec.toNat_ofNat] at hslot
  omega

/-! ## The epochs resolved -/

theorem State.resolveFrom_eq_foldl (r : RefId) (n : Nat) :
    ∀ (s : State) (p : Epoch),
      s.resolveFrom r n p = (epochsFrom p n).foldl (fun t q => t.resolveOne r q) s := by
  induction n with
  | zero => exact fun _ _ => rfl
  | succ n ih =>
    intro s p
    rw [epochsFrom_succ, List.foldl_cons, State.resolveFrom, ih]

/-- A gap changes what is held at no epoch of another slot. -/
theorem holdsData_gap {s : State} {r : RefId} {p q : Epoch} (h : slotOf p ≠ slotOf q) :
    holdsData ((s.gap r p).ref r) q = holdsData (s.ref r) q := by
  have hne : (slotOf p).val ≠ (slotOf q).val := fun hv => h (Fin.ext hv)
  have hslot : slotFor ((s.gap r p).ref r) q = slotFor (s.ref r) q := by
    rw [State.gap_ref]
    dsimp only
    split <;> simp [slotFor, recordGap, hne]
  simp only [holdsData, hslot]

/-- Of epochs in different slots, those resolved without DATA become gaps, in their order (R12). -/
theorem State.foldl_resolveOne (r : RefId) (ps : List Epoch) :
    ∀ s : State, ps.Pairwise (fun a b => slotOf a ≠ slotOf b) →
      ps.foldl (fun t q => t.resolveOne r q) s =
        (ps.filter fun p => !holdsData (s.ref r) p).foldl (fun t q => t.gap r q) s := by
  induction ps with
  | nil => exact fun _ _ => rfl
  | cons p ps ih =>
    intro s hps
    obtain ⟨hp, hps⟩ := List.pairwise_cons.mp hps
    rw [List.foldl_cons, ih _ hps, State.resolveOne]
    cases hd : holdsData (s.ref r) p with
    | true => simp [hd]
    | false =>
      have same : (ps.filter fun q => !holdsData ((s.gap r p).ref r) q) =
          ps.filter fun q => !holdsData (s.ref r) q :=
        List.filter_congr fun q hq => by rw [holdsData_gap (hp q hq)]
      simp [hd, same]

/-- The ring after gaps in different slots: each gap's slot records it, and no other slot changes. -/
theorem gapRing_getElem (ps : List Epoch) :
    ∀ ring : Vector Slot 128, ps.Pairwise (fun a b => slotOf a ≠ slotOf b) →
      (∀ p ∈ ps, (gapRing ring ps)[slotOf p] = gapSlot p)
        ∧ ∀ i : Fin 128, (∀ p ∈ ps, i ≠ slotOf p) → (gapRing ring ps)[i] = ring[i] := by
  induction ps with
  | nil => exact fun ring _ => ⟨by simp, fun _ _ => rfl⟩
  | cons p ps ih =>
    intro ring hps
    obtain ⟨hp, hps⟩ := List.pairwise_cons.mp hps
    obtain ⟨written, kept⟩ := ih (ring.set (slotOf p) (gapSlot p)) hps
    refine ⟨fun q hq => ?_, fun i hi => ?_⟩
    · obtain rfl | hq := List.mem_cons.mp hq
      · exact (kept (slotOf q) hp).trans (by simp)
      · exact written q hq
    · have hne : (slotOf p).val ≠ i.val := fun hv => hi p (by simp) (Fin.ext hv.symm)
      refine (kept i fun q hq => hi q (by simp [hq])).trans ?_
      simp [hne]

/-! ## The resolution of a reference -/

/-- The last epoch that an advance resolves: E − W (R12). -/
def lastResolved (s : State) (r : RefId) : Epoch := epochPlus s.epoch (-((s.ref r).wait : Int))

/-- The epochs from the resolution point `n` on that this resolution records as gaps, oldest first. -/
def gapsFound (s : State) (r : RefId) (n : Epoch) : List Epoch :=
  (epochsFrom n ((lastResolved s r - n).toNat + 1)).filter fun p => !holdsData (s.ref r) p

theorem State.resolve_nothing {s : State} {r : RefId}
    (h : (s.ref r).state = .inactive
      ∨ ∃ n, (s.ref r).resolution = some n ∧ isAfter n (lastResolved s r) = true) :
    s.resolve r = s := by
  simp only [State.resolve]
  split
  · rfl
  · rfl
  · rename_i n hn hactive
    obtain hx | ⟨n', hn', hafter⟩ := h
    · exact absurd hx hactive
    · obtain rfl : n' = n := by simpa [hn'] using hn
      exact if_pos hafter

theorem State.resolve_from {s : State} {r : RefId} {n : Epoch} (hx : (s.ref r).state ≠ .inactive)
    (hn : (s.ref r).resolution = some n) (hlast : isAfter n (lastResolved s r) = false) :
    s.resolve r = (s.resolveFrom r ((lastResolved s r - n).toNat + 1) n).setRef r
      { (s.resolveFrom r ((lastResolved s r - n).toNat + 1) n).ref r with
        resolution := some (lastResolved s r + 1) } := by
  simp only [State.resolve]
  split
  · exact absurd ‹_› hx
  · rename_i hnone _
    simp [hn] at hnone
  · rename_i n' hn' _
    obtain rfl : n = n' := by simpa [hn] using hn'
    exact if_neg (by simpa [lastResolved] using hlast)

/-- Resolution of at most 128 epochs in closed form (R12, R13, R99, R100). -/
theorem State.resolve_eq {s : State} {r : RefId} {n : Epoch} (hx : (s.ref r).state ≠ .inactive)
    (hn : (s.ref r).resolution = some n) (hlast : isAfter n (lastResolved s r) = false)
    (hfew : (lastResolved s r - n).toNat < 128) :
    s.resolve r =
      ((if stallsAfter (s.ref r) (gapsFound s r n).length then s.raiseRef .refStall r else s).setRef r
        { gapsRecord (s.ref r) (gapsFound s r n) with
          resolution := some (lastResolved s r + 1) }).setTracker r
            ((gapsFound s r n).zipIdx.foldl (hearGap (s.ref r) (3 - (s.ref r).consecutiveGaps))
              (s.tracker r)) := by
  have resolved : s.resolveFrom r ((lastResolved s r - n).toNat + 1) n =
      (gapsFound s r n).foldl (fun t q => t.gap r q) s := by
    rw [State.resolveFrom_eq_foldl, State.foldl_resolveOne, gapsFound]
    exact pairwise_slotOf_epochsFrom n hfew
  rw [State.resolve_from hx hn hlast, resolved,
    State.foldl_gap r _ s 0 (3 - (s.ref r).consecutiveGaps) fun _ => (Nat.zero_add _).symm]
  simp only [State.setTracker_ref, State.ref_setRef_self, State.setTracker_setRef,
    State.setRef_setRef]

/-! ## EPOCH_RESOLUTION -/

/-- The tracker after the ageing of its onset record, where that is due (R99). -/
def agedTracker (s : State) (r : RefId) : Tracker :=
  if .onsetAge r ∈ s.due then ageOnset (s.tracker r) s.epoch else s.tracker r

theorem State.takeAction_due {s : State} {a : EpochAction} (h : a ∈ s.due) :
    s.takeAction a = ({ s with due := s.due.filter fun b => b ≠ a } : State).act a :=
  if_pos (by simpa using h)

theorem State.takeAction_not_due {s : State} {a : EpochAction} (h : a ∉ s.due) :
    s.takeAction a = s := if_neg (by simpa using h)

/-- The part with neither the ageing of the onset record nor the resolution due any more (log 3). -/
def resolutionTaken (s : State) (r : RefId) : State :=
  { s with due := s.due.filter fun b =>
      b ≠ EpochAction.onsetAge r ∧ b ≠ EpochAction.resolve r }

/-- What EPOCH_RESOLUTION resolves: the onset record has been aged (R99). -/
def resolutionStart (s : State) (r : RefId) : State :=
  (resolutionTaken s r).setTracker r (agedTracker s r)

theorem exec_epochResolution {s : State} {r : RefId} (h : .resolve r ∈ s.due) :
    exec (.epochResolution r) s = .next ((resolutionStart s r).resolve r) := by
  have taken : exec (.epochResolution r) s =
      .next ((s.takeAction (.onsetAge r)).takeAction (.resolve r)) :=
    congrArg _ (if_pos (by simpa using h))
  rw [taken]
  by_cases hage : EpochAction.onsetAge r ∈ s.due
  · have both : (s.due.filter fun b => b ≠ EpochAction.onsetAge r).filter
        (fun b => b ≠ EpochAction.resolve r) =
        s.due.filter fun b => b ≠ EpochAction.onsetAge r ∧ b ≠ EpochAction.resolve r := by
      rw [List.filter_filter]
      exact List.filter_congr fun b _ => by simp [Bool.and_comm]
    rw [State.takeAction_due hage, State.takeAction_due (by simpa [State.act, State.doOnsetAge] using h)]
    simp only [State.act, State.doOnsetAge, State.setTracker_due, both, resolutionStart,
      resolutionTaken, agedTracker, if_pos hage]
    rfl
  · have both : (s.due.filter fun b => b ≠ EpochAction.resolve r) =
        s.due.filter fun b => b ≠ EpochAction.onsetAge r ∧ b ≠ EpochAction.resolve r := by
      refine List.filter_congr fun b hb => ?_
      have hne : b ≠ EpochAction.onsetAge r := fun heq => hage (heq ▸ hb)
      simp [hne]
    rw [State.takeAction_not_due hage, State.takeAction_due h]
    simp only [State.act, both, resolutionStart, resolutionTaken, agedTracker, if_neg hage]
    exact congrArg (fun t => Host.Outcome.next (State.resolve t r))
      (State.setTracker_tracker_self _ r).symm

/-- The ageing moves neither the reference nor E, so the same epochs are resolved. -/
theorem resolutionStart_same (s : State) (r : RefId) :
    (resolutionStart s r).ref r = s.ref r ∧ (resolutionStart s r).tracker r = agedTracker s r
      ∧ lastResolved (resolutionStart s r) r = lastResolved s r
      ∧ ∀ n, gapsFound (resolutionStart s r) r n = gapsFound s r n :=
  ⟨rfl, State.tracker_setTracker_self .., rfl, fun _ => rfl⟩

/-- The ageing closes an old record of an OPEN tracker as a miss. -/
theorem agedTracker_eq (s : State) (r : RefId) : agedTracker s r =
    match (s.tracker r).onset with
    | some o =>
      if .onsetAge r ∈ s.due ∧ (s.tracker r).state = .opened ∧ 40 < behind s.epoch o.epoch then
        { disarm (s.tracker r) with missCount := countUp (s.tracker r).missCount 1 }
      else s.tracker r
    | none => s.tracker r := by
  by_cases hdue : EpochAction.onsetAge r ∈ s.due
  · cases ho : (s.tracker r).onset with
    | none => cases hs : (s.tracker r).state <;> simp [agedTracker, hdue, ageOnset, ho, hs]
    | some o => cases hs : (s.tracker r).state <;> simp [agedTracker, hdue, ageOnset, ho, hs]
  · cases ho : (s.tracker r).onset <;> simp [agedTracker, hdue]

/-- EPOCH_RESOLUTION of any number of epochs, at most 128. -/
theorem exec_epochResolution_from {s : State} {r : RefId} {n : Epoch} (h : .resolve r ∈ s.due)
    (hx : (s.ref r).state ≠ .inactive) (hn : (s.ref r).resolution = some n)
    (hlast : isAfter n (lastResolved s r) = false) (hfew : (lastResolved s r - n).toNat < 128) :
    exec (.epochResolution r) s = .next
      (((if stallsAfter (s.ref r) (gapsFound s r n).length then
          (resolutionTaken s r).raiseRef .refStall r else resolutionTaken s r).setRef r
        { gapsRecord (s.ref r) (gapsFound s r n) with
          resolution := some (lastResolved s r + 1) }).setTracker r
            ((gapsFound s r n).zipIdx.foldl (hearGap (s.ref r) (3 - (s.ref r).consecutiveGaps))
              (agedTracker s r))) := by
  obtain ⟨href, htracker, hlastEq, hgaps⟩ := resolutionStart_same s r
  have resolved := State.resolve_eq (s := resolutionStart s r) (r := r) (n := n) hx hn hlast hfew
  rw [exec_epochResolution h, resolved, href, htracker, hlastEq, hgaps]
  simp only [resolutionStart]
  split <;>
    simp only [State.raiseRef_setTracker, State.setTracker_setRef, State.setTracker_setTracker]

/-- The steady case: one epoch to resolve, and no onset record to age. -/
theorem exec_epochResolution_one {s : State} {r : RefId} {n : Epoch} (h : .resolve r ∈ s.due)
    (hage : .onsetAge r ∉ s.due) (hx : (s.ref r).state ≠ .inactive)
    (hn : (s.ref r).resolution = some n) (hlast : n = lastResolved s r) :
    let u := { s with due := s.due.filter fun b => b ≠ EpochAction.resolve r }
    exec (.epochResolution r) s = .next ((u.resolveOne r n).setRef r
      { (u.resolveOne r n).ref r with resolution := some (n + 1) }) := by
  intro u
  have taken : exec (.epochResolution r) s =
      .next ((s.takeAction (.onsetAge r)).takeAction (.resolve r)) :=
    congrArg _ (if_pos (by simpa using h))
  have point : lastResolved u r = n := hlast.symm
  have resolved : u.resolve r = (u.resolveOne r n).setRef r
      { (u.resolveOne r n).ref r with resolution := some (n + 1) } := by
    have this := State.resolve_from (s := u) (r := r) (n := n) hx hn (by simp [point, isAfter])
    simpa [point, State.resolveFrom] using this
  rw [taken, State.takeAction_not_due hage, State.takeAction_due h]
  exact congrArg _ resolved

/-- Settles O14: the steady case is one epoch resolved by itself; any other number is the fold over the
gaps in closed form, the ring read back slot by slot. -/
theorem resolutionTable : Obligations.ResolutionTable := by
  refine ⟨fun r s n => ?_, fun r s => ?_⟩
  · intro x hdue hage hx hn hlast u gapped heard
    have one := exec_epochResolution_one hdue hage hx hn hlast
    change exec (.epochResolution r) s = .next ((u.resolveOne r n).setRef r
      { (u.resolveOne r n).ref r with resolution := some (n + 1) }) at one
    have held : holdsData (u.ref r) n = holdsData x n := rfl
    refine ⟨fun hdata => ?_, fun hdata hgo => ?_, fun hdata hactive hfour => ?_⟩
    · rw [one, State.resolveOne, if_pos (held.trans hdata)]
      rfl
    · have passing : u.gap r n = (u.setRef r (recordGap x n)).setTracker r heard := if_neg hgo
      rw [one, State.resolveOne, if_neg (by simp [held, hdata]), passing]
      simp only [State.setTracker_ref, State.ref_setRef_self, State.setTracker_setRef,
        State.setRef_setRef]
      rfl
    · have stalling : u.gap r n = ((u.setRef r { recordGap x n with state := .stalled }).setTracker r
          (discardProgress heard)).raiseRef .refStall r := if_pos ⟨hactive, hfour⟩
      rw [one, State.resolveOne, if_neg (by simp [held, hdata]), stalling]
      simp only [State.raiseRef_ref, State.setTracker_ref, State.ref_setRef_self]
      refine ⟨_, rfl, State.ref_setRef_self .., State.tracker_setTracker_self .., rfl, rfl, rfl, rfl,
        fun q hq => ⟨?_, ?_⟩⟩
      · simp only [State.ref_setRef, if_neg hq, State.raiseRef_ref, State.setTracker_ref]
        rfl
      · simp only [State.setRef_tracker, State.raiseRef_tracker, State.tracker_setTracker, if_neg hq]
        rfl
  · intro x h left aged last hdue
    have haged : agedTracker s r = aged := agedTracker_eq s r
    refine ⟨fun hnone => ?_, fun n hx hn hlast hfew => ?_⟩
    · have nothing : (resolutionStart s r).resolve r = resolutionStart s r :=
        State.resolve_nothing hnone
      rw [exec_epochResolution hdue, nothing, resolutionStart, haged]
      rfl
    · intro epochs gaps stalls
      have hgaps : gapsFound s r n = gaps := rfl
      have gapsDistinct : gaps.Pairwise fun a b => slotOf a ≠ slotOf b :=
        (pairwise_slotOf_epochsFrom n hfew).filter _
      obtain ⟨written, kept⟩ := gapRing_getElem gaps x.ring gapsDistinct
      refine ⟨gapRing x.ring gaps, ?_, written, kept⟩
      refine (exec_epochResolution_from hdue hx hn hlast hfew).trans ?_
      rw [haged, hgaps]
      have stalls_iff : stallsAfter x gaps.length ↔ stalls := by
        simp [stallsAfter, stalls]
      have record : { gapsRecord x gaps with resolution := some (last + 1) } = { x with
          state := if stalls then .stalled else x.state
          resolution := some (last + 1), ring := gapRing x.ring gaps
          totalGaps := BitVec.ofNat 16 (min 65535 (x.totalGaps.toNat + gaps.length))
          consecutiveGaps := if gaps = [] then x.consecutiveGaps
            else min 4 (x.consecutiveGaps + gaps.length)
          continuous := if gaps = [] then x.continuous else 0 } := by
        rw [gapsRecord, if_congr stalls_iff rfl rfl]
        rfl
      rw [if_congr stalls_iff rfl rfl]
      exact congrArg (fun y => Host.Outcome.next (((if stalls then left.raise .refStall r.val
        else left).setRef r y).setTracker r _)) record

end Sys2Proof.Machine
end

section
/-! SUPPORT. What a pass computes: the selection of a grant, the update, the reference peak and the
results, each in plain arithmetic. -/

namespace Sys2Proof.Machine

/-! ## Arithmetic -/

theorem epochPlus_epochPlus (e : Epoch) (j k : Int) :
    epochPlus (epochPlus e j) k = epochPlus e (j + k) := by
  rw [epochPlus, epochPlus, epochPlus, BitVec.ofInt_add, BitVec.add_assoc]

theorem saturate24_eq (v : Int) : saturate24 v = max (-8388608) (min 8388607 v) := rfl

theorem toInt_saturate24 (v : Int) : (BitVec.ofInt 24 (saturate24 v)).toInt = saturate24 v := by
  have := saturate24_eq v
  rw [BitVec.toInt_ofInt]
  exact Int.bmod_eq_of_le (by omega) (by omega)

theorem saturate16_eq (v : Int) : saturate16 v = max (-32768) (min 32767 v) := rfl

theorem toInt_saturate16 (v : Int) : (BitVec.ofInt 16 (saturate16 v)).toInt = saturate16 v := by
  have := saturate16_eq v
  rw [BitVec.toInt_ofInt]
  exact Int.bmod_eq_of_le (by omega) (by omega)

theorem lt_bitLength_of_two_pow_le {v n : Nat} (h : 2 ^ n ≤ v) : n < bitLength v := by
  have hv : v ≠ 0 := (lt_of_lt_of_le (Nat.two_pow_pos n) h).ne'
  rw [bitLength, if_neg hv]
  exact Nat.lt_succ_of_le ((Nat.le_log2 hv).mpr h)

/-! ## The selection of a grant (R78, R79) -/

/-- The first `k` members of a list that satisfy `p` are those of a first part, which ends at the last of
them. -/
theorem exists_filter_take_eq_take {α : Type} (p : α → Bool) (l : List α) :
    ∀ k, k ≤ (l.filter p).length → ∃ m, m ≤ l.length ∧ (l.filter p).take k = (l.take m).filter p
      ∧ (k = 0 → m = 0) ∧ (0 < k → ∃ n, ∃ h : n < l.length, m = n + 1 ∧ p l[n] = true) := by
  induction l with
  | nil =>
    intro k hk
    obtain rfl : k = 0 := by simpa using hk
    exact ⟨0, by simp⟩
  | cons x l ih =>
    intro k hk
    cases k with
    | zero => exact ⟨0, by simp⟩
    | succ k =>
      cases hx : p x with
      | true =>
        obtain ⟨m, hm, htake, hzero, hlast⟩ := ih k (by simpa [hx] using hk)
        refine ⟨m + 1, by simpa using hm, by simp [hx, htake], by simp, fun _ => ?_⟩
        cases k with
        | zero => exact ⟨0, by simp, by simpa using hzero, by simpa using hx⟩
        | succ k =>
          obtain ⟨n, hn, rfl, hp⟩ := hlast k.succ_pos
          exact ⟨n + 1, by simpa using hn, rfl, by simpa using hp⟩
      | false =>
        obtain ⟨m, hm, htake, -, hlast⟩ := ih (k + 1) (by simpa [hx] using hk)
        obtain ⟨n, hn, rfl, hp⟩ := hlast k.succ_pos
        exact ⟨n + 1 + 1, by simpa using hm, by simp [hx, htake], by simp,
          fun _ => ⟨n + 1, by simpa using hn, rfl, by simpa using hp⟩⟩

/-- Once round from the cursor meets every position, each once. -/
theorem cyclic_perm {total cursor : Nat} (h : cursor < total) :
    (cyclic total cursor).Perm (List.range total) := by
  have nodup : (cyclic total cursor).Nodup := by
    refine (List.nodup_map_iff_inj_on List.nodup_range).mpr fun a ha b hb heq => ?_
    have hat := List.mem_range.mp ha
    have hbt := List.mem_range.mp hb
    have hmod : a ≡ b [MOD total] := Nat.ModEq.add_left_cancel' cursor heq
    exact hmod.eq_of_lt_of_lt hat hbt
  have inside : cyclic total cursor ⊆ List.range total := by
    intro p hp
    obtain ⟨n, -, rfl⟩ := List.mem_map.mp hp
    exact List.mem_range.mpr (Nat.mod_lt _ (by omega))
  exact (List.subperm_of_subset nodup inside).perm_of_length_le (by simp [cyclic])

theorem PassInputs.adapts_iff (i : PassInputs) (p : Nat) :
    i.adapts p = true ↔ ∃ r, i.bound[p / i.tail]? = some r ∧ i.eligibility r = .adapting := by
  cases hb : i.bound[p / i.tail]? with
  | none => simp [PassInputs.adapts, PassInputs.place, hb]
  | some r =>
    have hmem : r ∈ i.bound := List.mem_of_getElem? hb
    simp [PassInputs.adapts, PassInputs.place, hb, PassInputs.adapting, hmem]

/-- In blocks of `t` positions, one for each member, those of the members that satisfy `q`. -/
theorem countP_range_blocks {α : Type} (q : α → Bool) (t : Nat) (l : List α) :
    (List.range (t * l.length)).countP (fun p => (l[p / t]?).any q) = t * l.countP q := by
  induction l with
  | nil => simp
  | cons x l ih =>
    have hfirst : (List.range t).countP (fun p => ((x :: l)[p / t]?).any q) =
        if q x then t else 0 := by
      have same : ∀ p ∈ List.range t, (((x :: l)[p / t]?).any q = true ↔ q x = true) := by
        intro p hp
        simp [Nat.div_eq_of_lt (List.mem_range.mp hp)]
      rw [List.countP_congr same]
      split <;> simp_all
    have hrest : (List.range (t * l.length)).countP (fun p => ((x :: l)[(t + p) / t]?).any q) =
        t * l.countP q := by
      rw [← ih]
      refine List.countP_congr fun p hp => ?_
      have ht : 0 < t := Nat.pos_of_ne_zero (by rintro rfl; simp at hp)
      rw [Nat.add_div_left p ht, List.getElem?_cons_succ]
    rw [List.length_cons, Nat.mul_succ, Nat.add_comm, List.range_add, List.countP_append,
      List.countP_map, hfirst]
    refine (congrArg _ hrest).trans ?_
    rw [List.countP_cons]
    split <;> ring

/-- As many positions belong to chains that adapt as those chains have partitions. -/
theorem PassInputs.length_filter_adapts (i : PassInputs) (h : i.record.cursor < i.positions) :
    ((cyclic i.positions i.record.cursor).filter fun p => i.adapts p).length =
      i.tail * i.adapting.length := by
  have same : ∀ p ∈ List.range i.positions, (i.adapts p = true ↔
      (i.bound[p / i.tail]?).any (fun r => decide (i.eligibility r = .adapting)) = true) := by
    intro p _
    rw [i.adapts_iff p]
    cases i.bound[p / i.tail]? <;> simp
  rw [← List.countP_eq_length_filter, (cyclic_perm h).countP_eq, List.countP_congr same,
    PassInputs.positions, countP_range_blocks, PassInputs.adapting, List.countP_eq_length_filter]

section
variable (i : PassInputs) (h : i.record.cursor < i.positions)
include h

theorem PassInputs.length_selected {g : Nat} (hg : g ≤ i.tail * i.adapting.length) :
    (i.selected g).length = g := by
  rw [PassInputs.selected, List.length_take, i.length_filter_adapts h, Nat.min_eq_left hg]

theorem PassInputs.nodup_selected (g : Nat) : (i.selected g).Nodup :=
  (((cyclic_perm h).nodup_iff.mpr List.nodup_range).filter _).sublist (List.take_sublist _ _)

theorem PassInputs.of_mem_selected {g p : Nat} (hp : p ∈ i.selected g) :
    p < i.positions ∧ i.adapts p = true := by
  obtain ⟨hcyclic, hadapts⟩ := List.mem_filter.mp (List.mem_of_mem_take hp)
  exact ⟨List.mem_range.mp ((cyclic_perm h).mem_iff.mp hcyclic), hadapts⟩

theorem PassInputs.cursorAfter_lt (g : Nat) : i.cursorAfter g < i.positions := by
  rw [PassInputs.cursorAfter]
  split
  · exact Nat.mod_lt _ (by omega)
  · exact h

end

/-- The selection stops at its last position, and the cursor stands after it (R79). -/
theorem PassInputs.selected_reach (i : PassInputs) {g : Nat} (h : i.record.cursor < i.positions)
    (hg : g ≤ i.tail * i.adapting.length) :
    ∃ reach, reach ≤ i.positions
      ∧ i.selected g = ((List.range reach).map fun n =>
          (i.record.cursor + n) % i.positions).filter (fun p => i.adapts p)
      ∧ i.cursorAfter g = (i.record.cursor + reach) % i.positions
      ∧ (g = 0 → reach = 0)
      ∧ (0 < g → 0 < reach ∧ i.adapts ((i.record.cursor + reach - 1) % i.positions) = true) := by
  obtain ⟨reach, hlen, htake, hzero, hlast⟩ := exists_filter_take_eq_take (fun p => i.adapts p)
    (cyclic i.positions i.record.cursor) g (by rwa [i.length_filter_adapts h])
  have hle : reach ≤ i.positions := by simpa [cyclic] using hlen
  have htakeRange : (cyclic i.positions i.record.cursor).take reach =
      (List.range reach).map fun n => (i.record.cursor + n) % i.positions := by
    rw [cyclic, ← List.map_take, List.take_range, Nat.min_eq_left hle]
  have hselected : i.selected g = ((List.range reach).map fun n =>
      (i.record.cursor + n) % i.positions).filter (fun p => i.adapts p) := by
    rw [PassInputs.selected, htake, htakeRange]
  refine ⟨reach, hle, hselected, ?_, hzero, fun hpos => ?_⟩
  · rcases Nat.eq_zero_or_pos g with hg0 | hpos
    · obtain rfl := hzero hg0
      simp [PassInputs.cursorAfter, hselected, Nat.mod_eq_of_lt h]
    · obtain ⟨n, hn, rfl, hp⟩ := hlast hpos
      have hadapts : i.adapts ((i.record.cursor + n) % i.positions) = true := by
        simpa [cyclic] using hp
      have hend : (i.selected g).getLast? = some ((i.record.cursor + n) % i.positions) := by
        rw [hselected, List.range_succ, List.map_append, List.filter_append]
        simp [hadapts]
      simp [PassInputs.cursorAfter, hend, Nat.add_assoc]
  · obtain ⟨n, hn, rfl, hp⟩ := hlast hpos
    exact ⟨n.succ_pos, by simpa [cyclic] using hp⟩

/-! ## The update (R74, R75) -/

theorem epochPlus_baseEpoch (i : PassInputs) (r : RefId) (n : Nat) :
    epochPlus (i.baseEpoch r) (-(n : Int)) =
      epochPlus i.frame.epoch (-((i.delay r / 128 + n : Nat) : Int)) := by
  rw [PassInputs.baseEpoch, epochPlus_epochPlus, PassInputs.epoch]
  congr 1
  push_cast
  ring

/-- The energies read for the epochs s0 − 3 to s0. -/
theorem energySum_baseEpoch (i : PassInputs) (r : RefId) :
    energySum i.refs[r] (i.baseEpoch r) = ((List.range 4).map fun n =>
      readEnergy i.refs[r] (epochPlus i.frame.epoch (-((i.delay r / 128 + n : Nat) : Int)))).sum := by
  simp only [energySum, epochPlus_baseEpoch]

/-- With a regularization of 16 or more the shift of R75 is never 0. -/
theorem PassInputs.rawUpdate_eq (i : PassInputs) (err : Frame) (r : RefId) (k : Nat)
    (h : 16 ≤ i.record.regularize) :
    i.rawUpdate err r k = (tapOf i.chains[r] k).toInt
      + ((i.record.step : Int) * i.gradient err r k + 2 ^ (i.normalization - 15))
        / 2 ^ (i.normalization - 14) := by
  have hb : i.record.regularize < i.normalization :=
    lt_bitLength_of_two_pow_le (Nat.le_add_left _ _)
  rw [PassInputs.rawUpdate, roundShift, if_neg (by omega), Nat.sub_sub]

theorem PassInputs.update_coefs (i : PassInputs) (err : Frame) (r : RefId) (j : Nat) (o : Fin 256) :
    ((i.update err r j).coefs[o]).toInt = saturate24 (i.rawUpdate err r (256 * j + o.val)) := by
  simp only [PassInputs.update, Fin.getElem_fin, Vector.getElem_ofFn]
  exact toInt_saturate24 _

theorem PassInputs.update_sats (i : PassInputs) (err : Frame) (r : RefId) (j : Nat) :
    (i.update err r j).sats = ((List.finRange 256).filter fun o =>
      saturate24 (i.rawUpdate err r (256 * j + o.val)) ≠ i.rawUpdate err r (256 * j + o.val)).length := by
  rw [PassInputs.update, Vector.toList_eq_map_finRange, List.filter_map, List.length_map]
  simp [Function.comp_def]

/-! ## The echo, the errors and the reference peak (R70, R71, R85) -/

theorem PassInputs.errors_toInt (i : PassInputs) (n : Fin 128) :
    (i.errors[n]).toInt = saturate16 ((i.frame.samples[n]).toInt - i.echo n.val) := by
  simp only [PassInputs.errors, Fin.getElem_fin, Vector.getElem_ofFn]
  exact toInt_saturate16 _

theorem PassInputs.windowPeak_le (i : PassInputs) (r : RefId) (v : Nat) :
    i.windowPeak r ≤ v ↔ ∀ q : Nat, i.delay r / 128 ≤ q → q ≤ 2 * i.tail + (i.delay r + 126) / 128 →
      readPeak i.refs[r] (epochPlus i.frame.epoch (-(q : Int))) ≤ v := by
  simp only [PassInputs.windowPeak, peakMaximum, foldl_max_le, epochPlus_baseEpoch,
    reachOf, Nat.zero_le, true_and, List.forall_mem_map, List.mem_range]
  constructor
  · intro h q hlo hhi
    have := h (q - i.delay r / 128) (by omega)
    rwa [Nat.add_sub_cancel' hlo] at this
  · intro h n hn
    exact h _ (Nat.le_add_right _ _) (by omega)

theorem PassInputs.refPeak_le (i : PassInputs) (v : Nat) :
    i.refPeak ≤ v ↔ ∀ r ∈ i.bound, (i.refs[r]).state ≠ .inactive → i.windowPeak r ≤ v := by
  simp only [PassInputs.refPeak, foldl_max_le, Nat.zero_le, true_and, List.forall_mem_map,
    List.mem_filter, decide_eq_true_eq, and_imp]

/-! ## The results (R72, R73, R76, R118) -/

theorem PassInputs.wasRun_iff (i : PassInputs) : i.wasRun = true ↔ i.record.state = .run := by
  simp [PassInputs.wasRun]

theorem PassInputs.gates_iff (i : PassInputs) : i.gates = true ↔
    i.record.state = .run ∧ i.record.lock = true ∧ i.talk.1 = .far := by
  simp [PassInputs.gates, i.wasRun_iff, and_assoc]

/-- The conditions of R73 in order. -/
theorem PassInputs.eligibility_eq (i : PassInputs) (r : RefId) :
    i.eligibility r = (if ¬i.record.state = .run then .mode
      else if i.record.step = 0 then .stepZero
      else if (i.refs[r]).state = .inactive then .refInactive
      else if (i.refs[r]).state = .stalled then .refStalled
      else if (i.refs[r]).continuous < i.span r then .refill
      else if i.talk.1 ≠ .far then .talk else .adapting) := by
  rw [PassInputs.eligibility]
  exact if_congr (by simp [← i.wasRun_iff]) rfl rfl

theorem PassInputs.verdict_eq (i : PassInputs) : i.verdict i.errors =
    if i.record.state = .run then
      judge i.record.guard i.talk.1 (energyOf i.frame.samples) (energyOf i.errors)
    else .unchanged :=
  if_congr i.wasRun_iff rfl rfl

/-- A pass that trips passes its frame through and updates nothing (R72). -/
theorem PassInputs.results_trip {i : PassInputs} (g : Nat) (h : i.verdict i.errors = .trip) :
    (i.results g).updates = [] ∧ (i.results g).cursor = i.record.cursor
      ∧ (i.results g).freeze = i.freezes true
      ∧ (i.results g).output = i.outFrame i.errors true := by
  simp [PassInputs.results, PassInputs.updates, h]

theorem PassInputs.updates_go (i : PassInputs) (err : Frame) (g : Nat) :
    i.updates err g false = (i.selected g).filterMap fun p =>
      (i.bound[p / i.tail]?).map fun r => i.update err r (p % i.tail) := by
  simp [PassInputs.updates, PassInputs.place, Function.comp_def]

/-- An error sample is counted where saturation changes it (R71). -/
theorem PassInputs.errorSats_eq (i : PassInputs) :
    i.errorSats = ((List.finRange 128).filter fun n : Fin 128 =>
      (i.errors[n]).toInt ≠ (i.frame.samples[n]).toInt - i.echo n.val).length := by
  simp only [i.errors_toInt]
  rfl

/-- Any other pass updates the selected positions and puts out its error samples. -/
theorem PassInputs.results_go {i : PassInputs} (g : Nat) (h : i.verdict i.errors ≠ .trip) :
    (i.results g).updates = i.updates i.errors g false
      ∧ (i.results g).cursor = i.cursorAfter g
      ∧ (i.results g).freeze = i.freezes false
      ∧ (i.results g).output = i.outFrame i.errors false := by
  have go : (i.verdict i.errors == .trip) = false := by simpa using h
  simp [PassInputs.results, go]

theorem PassInputs.freezes_getElem (i : PassInputs) (tripping : Bool) (r : RefId) :
    (i.freezes tripping)[r] =
      if r ∈ i.bound then some (if tripping then .mode else i.eligibility r) else none := by
  simp [PassInputs.freezes]

/-- The output frame of a pass that does not trip (R76, R118). -/
theorem PassInputs.outFrame_go (i : PassInputs) (err : Frame) :
    (i.outFrame err false).epoch = i.frame.epoch ∧ (i.outFrame err false).kind = .cancelled
      ∧ (i.outFrame err false).talk = some i.talk.1 ∧ (i.outFrame err false).gated = i.gates
      ∧ ∀ n : Fin 128, (i.outFrame err false).samples[n] =
          if i.gates then gateSample i.record.meter.gateDepth err[n] else err[n] := by
  cases h : i.gates <;> simp [PassInputs.outFrame, PassInputs.epoch, h]

/-- Settles O38: each clause is one of the lemmas above, the reading rule by unfolding. -/
theorem updatesOfAPass : Obligations.UpdatesOfAPass := by
  refine ⟨fun i err r j => ?_, sampleIndex_toNat, fun x n => ?_, fun x p => ?_, fun i budget => ?_,
    fun i n => ?_, fun i p => ⟨rfl, i.adapts_iff p⟩, fun i v => ?_, fun i g r => ?_⟩
  · intro delay power b g moved hreg
    have hpower : i.power = power := by
      simp only [PassInputs.power, energySum_baseEpoch]
      rfl
    have hmoved (o : Fin 256) : i.rawUpdate err r (256 * j + o.val) = moved o := by
      rw [i.rawUpdate_eq err r _ hreg, PassInputs.normalization, hpower]
      rfl
    refine ⟨rfl, rfl, fun o => ?_, ?_⟩
    · rw [i.update_coefs, hmoved]
      rfl
    · rw [i.update_sats]
      simp only [hmoved]
      rfl
  · exact if_congr (holdsData_iff x (indexEpoch n)) rfl rfl
  · exact ⟨if_congr (holdsData_iff x p) rfl rfl, if_congr (holdsData_iff x p) rfl rfl⟩
  · intro g hcursor
    have hg : g ≤ i.tail * i.adapting.length := le_trans (min_le_right _ _) (min_le_right _ _)
    exact ⟨i.length_selected hcursor hg, i.nodup_selected hcursor g,
      fun p hp => i.of_mem_selected hcursor hp, i.cursorAfter_lt hcursor g,
      le_trans (min_le_right _ _) (min_le_left _ _), i.selected_reach hcursor hg⟩
  · exact ⟨rfl, i.errors_toInt n⟩
  · rw [i.refPeak_le]
    simp only [i.windowPeak_le]
    rfl
  · intro res x run talk gated
    have hspan : i.span r = 2 * x.tail.getD 0 + (((x.delays[r]).getD 0) + 126) / 128 + 1 := rfl
    refine ⟨rfl, rfl, rfl, i.verdict_eq, i.errorSats_eq, hspan ▸ i.eligibility_eq r,
      fun htrip => ?_, fun hgo => ?_⟩
    · obtain ⟨hupdates, hcursor, hfreeze, houtput⟩ := i.results_trip g htrip
      exact ⟨hupdates, hcursor, by rw [hfreeze, i.freezes_getElem]; rfl, houtput⟩
    · obtain ⟨hupdates, hcursor, hfreeze, houtput⟩ := i.results_go g hgo
      obtain ⟨hepoch, hkind, htalk, hgated, hsamples⟩ := i.outFrame_go i.errors
      refine ⟨hcursor, hupdates.trans (i.updates_go _ g), by rw [hfreeze, i.freezes_getElem]; rfl,
        houtput ▸ hepoch, houtput ▸ hkind, houtput ▸ htalk, ?_, fun n => ?_⟩
      · rw [houtput, hgated]
        exact i.gates_iff
      · rw [houtput, hsamples]
        exact if_congr i.gates_iff rfl rfl

end Sys2Proof.Machine
end

section
/-! SUPPORT. What Realign Control and the trackers may change when a lane hands them a frame or loses its
SHIFT entries, said once: `Realigned` holds of every operation of Chapter 6. -/

namespace Sys2Proof.Machine

/-- From `s` to `t` Realign Control and the trackers have acted: no tracker but those of `T` and no
realign record but those of `R` has changed, SHIFTs of references of `Q` may have joined the tail of the
Maintenance Queue for bound lanes, and notices may have been raised. -/
structure Realigned (T R Q : RefId → Prop) (s t : State) : Prop where
  refs        : t.refs = s.refs
  lanes       : t.lanes = s.lanes
  store       : t.store = s.store
  checkpoints : t.checkpoints = s.checkpoints
  due         : t.due = s.due
  job         : t.engine.job = s.engine.job
  tracker     : ∀ r, ¬T r → t.tracker r = s.tracker r
  realign     : ∀ r, ¬R r → t.realign r = s.realign r
  queue       : ∃ more, t.engine.queue = s.engine.queue ++ more ∧ ∀ e ∈ more,
    (s.lane e.lane).state ≠ .unbound ∧ ∃ r d, e.kind = .shift r d ∧ Q r

theorem State.lane_of_lanes {s t : State} (h : t.lanes = s.lanes) (l : LaneId) :
    t.lane l = s.lane l := by rw [State.lane, State.lane, h]

theorem allRefs_nodup : allRefs.Nodup := by decide

section
variable {T R Q : RefId → Prop} {s t u : State}

theorem Realigned.refl (s : State) : Realigned T R Q s s :=
  ⟨rfl, rfl, rfl, rfl, rfl, rfl, fun _ _ => rfl, fun _ _ => rfl, [], by simp⟩

theorem Realigned.lane (h : Realigned T R Q s t) (l : LaneId) : t.lane l = s.lane l :=
  State.lane_of_lanes h.lanes l

theorem Realigned.trans (h : Realigned T R Q s t) (k : Realigned T R Q t u) :
    Realigned T R Q s u := by
  obtain ⟨more, hmore, hshifts⟩ := h.queue
  obtain ⟨rest, hrest, hothers⟩ := k.queue
  refine ⟨k.refs.trans h.refs, k.lanes.trans h.lanes, k.store.trans h.store,
    k.checkpoints.trans h.checkpoints, k.due.trans h.due, k.job.trans h.job,
    fun r hr => (k.tracker r hr).trans (h.tracker r hr),
    fun r hr => (k.realign r hr).trans (h.realign r hr),
    more ++ rest, by rw [hrest, hmore, List.append_assoc], fun e he => ?_⟩
  obtain he | he := List.mem_append.mp he
  · exact hshifts e he
  · rw [← h.lane]
    exact hothers e he

theorem Realigned.raise (h : Realigned T R Q s t) (k : NoticeKind) (n : Nat) :
    Realigned T R Q s (t.raise k n) :=
  h.trans ⟨rfl, rfl, rfl, rfl, rfl, rfl, fun _ _ => rfl, fun _ _ => rfl, [], by simp⟩

theorem Realigned.raiseRef (h : Realigned T R Q s t) (k : NoticeKind) (r : RefId) :
    Realigned T R Q s (t.raiseRef k r) := h.raise k r.val

theorem Realigned.setRealign (h : Realigned T R Q s t) {r : RefId} (hr : R r) (x : Realign) :
    Realigned T R Q s (t.setRealign r x) := by
  refine h.trans ⟨rfl, rfl, rfl, rfl, rfl, rfl, fun _ _ => rfl, fun q hq => ?_, [], by simp⟩
  rw [State.realign_setRealign, if_neg]
  rintro rfl
  exact hq hr

theorem Realigned.setTracker (h : Realigned T R Q s t) {r : RefId} (hr : T r) (x : Tracker) :
    Realigned T R Q s (t.setTracker r x) := by
  refine h.trans ⟨rfl, rfl, rfl, rfl, rfl, rfl, fun q hq => ?_, fun _ _ => rfl, [], by simp⟩
  rw [State.tracker_setTracker, if_neg]
  rintro rfl
  exact hq hr

/-- A SHIFT requested joins the queue's tail for a bound lane, or nothing does (R61). -/
theorem Realigned.requestShift (h : Realigned T R Q s t) (l : LaneId) {r : RefId} (hr : Q r)
    (d : Int) : Realigned T R Q s (t.request l (.shift r d)) := by
  rw [State.request_shift]
  split
  · exact h
  · rename_i hgo
    refine h.trans ⟨rfl, rfl, rfl, rfl, rfl, rfl, fun _ _ => rfl, fun _ _ => rfl,
      [{ kind := .shift r d, lane := l }], rfl, fun e he => ?_⟩
    rw [List.mem_singleton.mp he]
    exact ⟨fun hu => hgo (.inl hu), r, d, rfl, hr⟩

/-! ## Committing a delay and ending a realign (R103 to R108) -/

theorem Realigned.requestShifts {r : RefId} (hr : Q r) (d : Nat) (ls : List LaneId) :
    ∀ {t : State}, Realigned T R Q s t → Realigned T R Q s (t.requestShifts r d ls) := by
  induction ls with
  | nil => exact fun h => h
  | cons l ls ih => exact fun h => ih (h.requestShift l hr _)

theorem Realigned.setTarget (h : Realigned T R Q s t) {r : RefId} (hr : R r) (hq : Q r) (d : Nat) :
    Realigned T R Q s (t.setTarget r d).1 := by
  simp only [State.setTarget]
  split
  · exact (h.setRealign hr _).raiseRef _ _
  · exact Realigned.requestShifts hq d _ (h.setRealign hr _)

theorem Realigned.commitIdle (h : Realigned T R Q s t) {r : RefId} (hr : R r) (hq : Q r) (d : Nat)
    (o : Origin) : Realigned T R Q s (t.commitIdle r d o).1 := by
  simp only [State.commitIdle]
  split
  · exact h
  · split
    · exact (h.setRealign hr _).raiseRef _ _
    · exact h.setTarget hr hq d

theorem Realigned.commit (h : Realigned T R Q s t) {r : RefId} (hr : R r) (hq : Q r) (d : Nat)
    (o : Origin) : Realigned T R Q s (t.commit r d o).1 := by
  simp only [State.commit]
  split
  · exact h.setRealign hr _
  · exact h.commitIdle hr hq d o

/-- The end of a realign requests SHIFTs only where a proposal was pending (R107). -/
theorem Realigned.endRealignIfDone (h : Realigned T R Q s t) {r : RefId} (hr : R r)
    (hq : (t.realign r).proposal ≠ none → Q r) : Realigned T R Q s (t.endRealignIfDone r) := by
  simp only [State.endRealignIfDone, State.endRealign]
  split
  · split
    · rename_i hpending
      exact ((h.setRealign hr _).raiseRef _ _).commitIdle hr (hq (by simp [hpending])) _ _
    · exact (h.setRealign hr _).raiseRef _ _
  · exact h

/-- The ends of several realigns: each finds the realign record that its reference had before (R108). -/
theorem Realigned.endRealigns (rs : List RefId) (hrs : rs.Nodup) :
    ∀ {t : State}, Realigned T R Q s t → (∀ r ∈ rs, R r) →
      (∀ r ∈ rs, (t.realign r).proposal ≠ none → Q r) → Realigned T R Q s (t.endRealigns rs) := by
  induction rs with
  | nil => exact fun h _ _ => h
  | cons r rs ih =>
    intro t h hR hQ
    obtain ⟨hnew, hrest⟩ := List.nodup_cons.mp hrs
    have ended : Realigned (fun _ => False) (· = r) (fun _ => True) t (t.endRealignIfDone r) :=
      (Realigned.refl t).endRealignIfDone rfl fun _ => trivial
    refine ih hrest (h.endRealignIfDone (hR r (by simp)) (hQ r (by simp)))
      (fun q hq => hR q (List.mem_cons_of_mem _ hq)) fun q hq hp => ?_
    have hne : q ≠ r := fun heq => hnew (heq ▸ hq)
    rw [ended.realign q hne] at hp
    exact hQ q (List.mem_cons_of_mem _ hq) hp

theorem State.endRealigns_eq_foldl (rs : List RefId) :
    ∀ s : State, s.endRealigns rs = rs.foldl (fun v r => v.endRealignIfDone r) s := by
  induction rs with
  | nil => exact fun _ => rfl
  | cons r rs ih => exact fun s => ih (s.endRealignIfDone r)

/-! ## A frame handed to the trackers (R98, R101) -/

theorem Realigned.propose (h : Realigned T R Q s t) {r : RefId} (hr : R r) (hq : Q r) :
    Realigned T R Q s (t.propose r) := by
  simp only [State.propose]
  split
  · split
    · exact h.commit hr hq _ _
    · exact h
  · exact h

/-- A tracker that is not OPEN ignores the frame (R98). -/
theorem State.trackMicrophone_of_not_opened {s : State} {r : RefId}
    (h : (s.tracker r).state ≠ .opened) (f : Epoch) (x : Frame) : s.trackMicrophone r f x = s := by
  simp only [State.trackMicrophone]
  split
  · exact absurd ‹_› h
  · rfl

theorem Realigned.trackMicrophone (h : Realigned T R Q s t) {r : RefId}
    (hr : (t.tracker r).state = .opened → T r ∧ R r ∧ Q r) (f : Epoch) (x : Frame) :
    Realigned T R Q s (t.trackMicrophone r f x) := by
  by_cases hopen : (t.tracker r).state = .opened
  · obtain ⟨hT, hR, hQ⟩ := hr hopen
    simp only [State.trackMicrophone]
    split
    · split
      · exact h
      · split
        · exact (h.setTracker hT _).propose hR hQ
        · exact h.setTracker hT _
        · exact h
    · exact h
  · rw [State.trackMicrophone_of_not_opened hopen]
    exact h

/-- A frame handed to several trackers: each is found as it was before, and only an OPEN tracker whose
pilot is the lane acts (R25, R98). -/
theorem Realigned.handToTrackers (l : LaneId) (f : InFrame) (rs : List RefId) (hrs : rs.Nodup) :
    ∀ {t : State}, Realigned T R Q s t →
      (∀ r ∈ rs, (t.tracker r).pilot = l → (t.tracker r).state = .opened → T r ∧ R r ∧ Q r) →
      Realigned T R Q s (t.handToTrackers l f rs) := by
  induction rs with
  | nil => exact fun h _ => h
  | cons r rs ih =>
    intro t h hr
    obtain ⟨hnew, hrest⟩ := List.nodup_cons.mp hrs
    rw [State.handToTrackers]
    split
    · rename_i hpilot
      have tracked : Realigned (· = r) (fun _ => True) (fun _ => True) t
          (t.trackMicrophone r f.epoch f.samples) :=
        Realigned.trackMicrophone (T := (· = r)) (.refl t) (fun _ => ⟨rfl, trivial, trivial⟩) _ _
      refine ih hrest (h.trackMicrophone (hr r (by simp) hpilot) _ _) fun q hq => ?_
      have hne : q ≠ r := fun heq => hnew (heq ▸ hq)
      rw [tracked.tracker q hne]
      exact hr q (List.mem_cons_of_mem _ hq)
    · exact ih hrest h fun q hq => hr q (List.mem_cons_of_mem _ hq)

/-- A frame handed to the trackers, whatever they are. -/
theorem realigned_handToTrackers (s : State) (l : LaneId) (f : InFrame) :
    Realigned (fun _ => True) (fun _ => True) (fun _ => True) s (s.handToTrackers l f allRefs) :=
  Realigned.handToTrackers l f allRefs allRefs_nodup (.refl s) fun _ _ _ _ =>
    ⟨trivial, trivial, trivial⟩

theorem State.handToTrackers_eq_foldl (l : LaneId) (f : InFrame) (rs : List RefId) :
    ∀ s : State, s.handToTrackers l f rs = rs.foldl (fun v r =>
      if (v.tracker r).pilot = l then v.trackMicrophone r f.epoch f.samples else v) s := by
  induction rs with
  | nil => exact fun _ => rfl
  | cons r rs ih => exact fun s => ih _

/-- With no tracker OPEN nothing happens (R98). -/
theorem State.handToTrackers_of_none_opened (l : LaneId) (f : InFrame) (rs : List RefId) {s : State}
    (h : ∀ r, (s.tracker r).state ≠ .opened) : s.handToTrackers l f rs = s := by
  induction rs with
  | nil => rfl
  | cons r rs ih => rw [State.handToTrackers, State.trackMicrophone_of_not_opened (h r), ite_self, ih]

end

end Sys2Proof.Machine
end

section
/-! SUPPORT. The lane records are as R20, R83, R122 and R130 say and the engine's work is that of bound
lanes (R58, R62): the operations on one record, then the operations on the state. -/

namespace Sys2Proof.Machine

/-! ## One lane record (R20, R83, R122, R130) -/

/-- What a bound lane's record must meet. -/
theorem Lane.ok_of_bound {x : Lane} (hb : x.state ≠ .unbound) :
    x.ok ↔ x.input.length ≤ 4 ∧ x.output.length ≤ 4 ∧ x.guard.stack.length ≤ 4
      ∧ (x.guard.retry.isSome ↔ x.state = .tripped) ∧ (0 < x.talk.hangover → x.talk.state = .double)
      ∧ x.refs ≠ none := by
  simp [Lane.ok, hb]

/-- A lane with a frame waiting is bound. -/
theorem Lane.ok.bound_of_input {x : Lane} (h : x.ok) (hi : x.input ≠ []) : x.state ≠ .unbound := by
  obtain ⟨-, -, -, -, -, -, hempty⟩ := h
  exact fun hu => hi (hempty hu).1

/-- A lane that is not TRIPPED has no retry countdown (R122). -/
theorem Lane.ok.retry_none {x : Lane} (h : x.ok) (hx : x.state ≠ .tripped) : x.guard.retry = none := by
  obtain ⟨-, -, -, hretry, -⟩ := h
  simpa using mt hretry.mp hx

/-- Frames leave the input queue (R28). -/
theorem Lane.ok.inputShortened {x : Lane} (h : x.ok) {fs : List InFrame}
    (hfs : fs.length ≤ x.input.length) : ({ x with input := fs } : Lane).ok := by
  obtain ⟨hin, hout, hstack, hretry, htalk, hrefs, hempty⟩ := h
  refine ⟨hfs.trans hin, hout, hstack, hretry, htalk, hrefs, fun hu => ?_⟩
  obtain ⟨hi, hrest⟩ := hempty hu
  exact ⟨by simpa [hi] using hfs, hrest⟩

section
variable {x : Lane} (h : x.ok) (hb : x.state ≠ .unbound)
include h hb

theorem Lane.ok.withInput {fs : List InFrame} (hfs : fs.length ≤ 4) :
    ({ x with input := fs } : Lane).ok := by
  obtain ⟨-, hrest⟩ := (Lane.ok_of_bound hb).mp h
  exact (Lane.ok_of_bound (x := { x with input := fs }) hb).mpr ⟨hfs, hrest⟩

theorem Lane.ok.withOutput {fs : List OutFrame} (hfs : fs.length ≤ 4) :
    ({ x with output := fs } : Lane).ok := by
  obtain ⟨hin, -, hrest⟩ := (Lane.ok_of_bound hb).mp h
  exact (Lane.ok_of_bound (x := { x with output := fs }) hb).mpr ⟨hin, hfs, hrest⟩

theorem Lane.ok.withStack {es : List Checkpoint} (hes : es.length ≤ 4) :
    ({ x with guard := { x.guard with stack := es } } : Lane).ok := by
  obtain ⟨hin, hout, -, hrest⟩ := (Lane.ok_of_bound hb).mp h
  exact (Lane.ok_of_bound (x := { x with guard := { x.guard with stack := es } }) hb).mpr
    ⟨hin, hout, hes, hrest⟩

/-- A bound lane changes its state, with a retry countdown exactly if it becomes TRIPPED (R31, R32, R37,
R38, R125 to R129). -/
theorem Lane.ok.withState {st : LaneState} (hst : st ≠ .unbound) {retry : Option Nat}
    (hretry : retry.isSome ↔ st = .tripped) :
    ({ x with state := st, guard := { x.guard with retry := retry } } : Lane).ok := by
  obtain ⟨hin, hout, hstack, -, hrest⟩ := (Lane.ok_of_bound hb).mp h
  exact (Lane.ok_of_bound
    (x := { x with state := st, guard := { x.guard with retry := retry } }) hst).mpr
    ⟨hin, hout, hstack, hretry, hrest⟩

/-- The record that an inserted output frame leaves (R26). -/
theorem Lane.ok.outputInserted (o : OutFrame) :
    (if 4 ≤ x.output.length then
        { x with
          output := x.output.drop 1 ++ [o]
          counters := { x.counters with overruns := countUp x.counters.overruns 1 } }
      else { x with output := x.output ++ [o] }).ok := by
  obtain ⟨-, hout, -⟩ := id h
  split
  · exact h.withOutput hb (fs := x.output.drop 1 ++ [o]) (by simp; omega)
  · exact h.withOutput hb (by simp; omega)

/-- RESET LANE keeps a lane bound, with no countdown and no hangover (R37). -/
theorem Lane.ok_clearingLane (delays : Vector (Option Nat) 3) : (clearingLane x delays).ok := by
  obtain ⟨-, -, hstack, -, -, hrefs⟩ := (Lane.ok_of_bound hb).mp h
  exact (Lane.ok_of_bound (by simp [clearingLane])).mpr
    ⟨Nat.zero_le _, Nat.zero_le _, hstack, by simp [clearingLane, resetGuard, endRetry],
      by simp [clearingLane, resetTalk], hrefs⟩

end

/-- BIND gives a lane its references and empty queues (R34). -/
theorem Lane.ok_boundLane (s : State) (refs : RefSet) (tail : Nat) : (s.boundLane refs tail).ok := by
  simp [Lane.ok, State.boundLane, Lane.reset, Guard.reset, Talk.reset]

/-- UNBIND takes a lane's references, its queues and its stack (R35). -/
theorem Lane.ok.unbound {x : Lane} (h : x.ok) : (unboundLane x).ok := by
  obtain ⟨-, -, -, -, htalk, -⟩ := h
  simpa [Lane.ok, unboundLane, endRetry] using htalk

/-- The retry countdown of a TRIPPED lane does not end by counting (R128). -/
theorem Lane.ok.retryTicked {x : Lane} (h : x.ok) : (retryTick x).ok := by
  obtain ⟨hin, hout, hstack, hretry, hrest⟩ := h
  rw [retryTick_eq]
  refine ⟨hin, hout, hstack, Iff.trans ?_ hretry, hrest⟩
  cases x.guard.retry with
  | none => rfl
  | some n =>
    dsimp only
    split <;> rfl

/-- A hangover runs in DOUBLE alone (R87). -/
theorem classify_hangover (t : Talk) (d : Detection) :
    0 < (classify t d).2 → (classify t d).1 = .double := by
  rw [classify]
  split
  · exact fun _ => rfl
  split
  · exact fun _ => rfl
  split
  · exact fun h => absurd h (by simp)
  split
  · exact fun h => absurd h (by simp)
  · exact fun h => absurd h (by simp)

/-! ## The operations of the state -/

theorem State.lanesOk.lane {s : State} (h : s.lanesOk) (l : LaneId) : (s.lane l).ok := h.1 l

/-- The job in flight is one of a bound lane (R58). -/
theorem State.lanesOk.job_bound {s : State} (h : s.lanesOk) {j : Job} (hj : s.engine.job = some j) :
    (s.lane j.lane).state ≠ .unbound := by
  obtain ⟨-, -, hjob, -⟩ := h
  exact hjob j hj

/-- From `s` to `t` the lane records stay as the chapters say, no lane is unbound, and no action of an
advance becomes due. -/
structure LanesKept (s t : State) : Prop where
  ok    : s.lanesOk → t.lanesOk
  bound : ∀ l, (s.lane l).state ≠ .unbound → (t.lane l).state ≠ .unbound
  due   : ∀ a ∈ t.due, a ∈ s.due

theorem LanesKept.refl (s : State) : LanesKept s s := ⟨id, fun _ => id, fun _ => id⟩

theorem LanesKept.trans {s t u : State} (a : LanesKept s t) (b : LanesKept t u) : LanesKept s u :=
  ⟨b.ok ∘ a.ok, fun l => b.bound l ∘ a.bound l, fun x => a.due x ∘ b.due x⟩

section
variable {s t u : State}

/-- An operation that leaves the lane records alone, and the work that of bound lanes. -/
theorem LanesKept.work (h : LanesKept s t) (hl : u.lanes = t.lanes) (hd : u.due = t.due)
    (hq : t.lanesOk → ∀ e ∈ u.engine.queue, (t.lane e.lane).state ≠ .unbound)
    (hj : t.lanesOk → ∀ j, u.engine.job = some j → (t.lane j.lane).state ≠ .unbound) :
    LanesKept s u := by
  refine h.trans ⟨fun ht => ⟨fun l => ?_, fun e he => ?_, fun j hu => ?_, fun l hdue => ?_⟩,
    fun l hb => ?_, fun a ha => hd ▸ ha⟩
  · rw [State.lane_of_lanes hl]
    exact ht.lane l
  · rw [State.lane_of_lanes hl]
    exact hq ht e he
  · rw [State.lane_of_lanes hl]
    exact hj ht j hu
  · rw [State.lane_of_lanes hl]
    obtain ⟨-, -, -, hends⟩ := ht
    exact hends l (hd ▸ hdue)
  · rw [State.lane_of_lanes hl]
    exact hb

/-- An operation that leaves the lanes, the engine and what is due alone. -/
theorem LanesKept.same (h : LanesKept s t) (hl : u.lanes = t.lanes) (he : u.engine = t.engine)
    (hd : u.due = t.due) : LanesKept s u := by
  refine h.work hl hd (fun ht => ?_) fun ht => ?_
  · rw [he]
    exact ht.2.1
  · rw [he]
    exact ht.2.2.1

theorem LanesKept.setLane (h : LanesKept s t) (l : LaneId) (x : Lane) (hx : (t.lane l).ok → x.ok)
    (hb : x.state = .unbound → (t.lane l).state = .unbound) : LanesKept s (t.setLane l x) := by
  have bound : ∀ k, (t.lane k).state ≠ .unbound → ((t.setLane l x).lane k).state ≠ .unbound := by
    intro k hk
    rw [State.lane_setLane]
    split
    · rename_i heq
      exact fun hu => hk (heq ▸ hb hu)
    · exact hk
  refine h.trans ⟨fun ht => ⟨fun k => ?_, ?_⟩, bound, fun _ => id⟩
  · rw [State.lane_setLane]
    split
    · exact hx (ht.lane l)
    · exact ht.lane k
  · obtain ⟨-, hqueue, hjob, hends⟩ := ht
    exact ⟨fun e he => bound _ (hqueue e he), fun j hj => bound _ (hjob j hj),
      fun k hk => bound k (hends k hk)⟩

/-- A lane's record replaced in fields that the invariant does not name. -/
theorem LanesKept.setLane_same (h : LanesKept s t) (l : LaneId) (x : Lane)
    (hx : (t.lane l).ok → x.ok) (hs : x.state = (t.lane l).state := by rfl) :
    LanesKept s (t.setLane l x) :=
  h.setLane l x hx fun hu => hs ▸ hu

theorem LanesKept.raise (h : LanesKept s t) (k : NoticeKind) (n : Nat) : LanesKept s (t.raise k n) :=
  h.same rfl rfl rfl

theorem LanesKept.raiseLane (h : LanesKept s t) (k : NoticeKind) (l : LaneId) :
    LanesKept s (t.raiseLane k l) := h.raise k l.val

theorem LanesKept.setPort (h : LanesKept s t) (p : Port) (x : PortState) :
    LanesKept s (t.setPort p x) := h.same rfl rfl rfl

theorem LanesKept.withStore (h : LanesKept s t) (st : Store) : LanesKept s { t with store := st } :=
  h.same rfl rfl rfl

theorem LanesKept.withCheckpoints (h : LanesKept s t) (c : CheckpointStore) :
    LanesKept s { t with checkpoints := c } := h.same rfl rfl rfl

theorem LanesKept.engineIdle (h : LanesKept s t) : LanesKept s t.engineIdle :=
  h.work rfl rfl (fun ht => ht.2.1) fun _ _ hj => by simp [State.engineIdle] at hj

theorem LanesKept.removeEntries (h : LanesKept s t) (f : MaintEntry → Bool) :
    LanesKept s (t.removeEntries f) :=
  h.work rfl rfl (fun ht e he => ht.2.1 e (List.mem_of_mem_filter he)) fun ht => ht.2.2.1

/-- A request of an UNBOUND lane is not queued (R61). -/
theorem LanesKept.request (h : LanesKept s t) (l : LaneId) (k : MaintKind) :
    LanesKept s (t.request l k) := by
  simp only [State.request]
  split
  · exact h
  · rename_i hgo
    refine h.work rfl rfl (fun ht e he => ?_) fun ht => ht.2.2.1
    obtain he | he := List.mem_append.mp he
    · exact ht.2.1 e he
    · rw [List.mem_singleton.mp he]
      exact fun hu => hgo (by simp [hu])

theorem LanesKept.realigned {T R Q : RefId → Prop} (h : LanesKept s t) (k : Realigned T R Q t u) :
    LanesKept s u := by
  obtain ⟨more, hmore, hshifts⟩ := k.queue
  refine h.work k.lanes k.due (fun ht e he => ?_) fun ht => ?_
  · rw [hmore] at he
    obtain he | he := List.mem_append.mp he
    · exact ht.2.1 e he
    · exact (hshifts e he).1
  · rw [k.job]
    exact ht.2.2.1

theorem LanesKept.handToTrackers (h : LanesKept s t) (l : LaneId) (f : InFrame) :
    LanesKept s (t.handToTrackers l f allRefs) := h.realigned (realigned_handToTrackers t l f)

/-! ### The lanes -/

theorem LanesKept.insertOutput (h : LanesKept s t) {l : LaneId} (hb : (s.lane l).state ≠ .unbound)
    (o : OutFrame) : LanesKept s (t.insertOutput l o) := by
  have inserted : (t.lane l).ok → ((t.insertOutput l o).lane l).ok := by
    rw [State.insertOutput_lane]
    exact fun hx => hx.outputInserted (h.bound l hb) o
  simp only [State.insertOutput] at inserted ⊢
  split
  · rename_i hfull
    refine LanesKept.raiseLane (h.setLane_same l _ fun hx => ?_) _ _
    simpa [hfull] using inserted hx
  · rename_i hroom
    refine h.setLane_same l _ fun hx => ?_
    simpa [hroom] using inserted hx

theorem LanesKept.passFrame (h : LanesKept s t) {l : LaneId} (hb : (s.lane l).state ≠ .unbound)
    (f : InFrame) : LanesKept s (t.passFrame l f) := (h.insertOutput hb _).handToTrackers l f

theorem LanesKept.passFrames {l : LaneId} (hb : (s.lane l).state ≠ .unbound) (fs : List InFrame) :
    ∀ {t : State}, LanesKept s t → LanesKept s (t.passFrames l fs) := by
  induction fs with
  | nil => exact fun h => h
  | cons f fs ih =>
    intro t h
    rw [State.passFrames]
    exact ih (h.passFrame hb f)

theorem LanesKept.flush (h : LanesKept s t) {l : LaneId} (hb : (s.lane l).state ≠ .unbound) :
    LanesKept s (t.flush l) := by
  rw [State.flush]
  exact LanesKept.passFrames hb _ (h.setLane_same l _ fun hx => hx.inputShortened (Nat.zero_le _))

/-- RETRY_COUNTDOWN_END: a lane bound before is RUN with no countdown (R128). -/
theorem LanesKept.doRetryEnd (h : LanesKept s t) {l : LaneId} (hb : (s.lane l).state ≠ .unbound) :
    LanesKept s (t.doRetryEnd l) := by
  rw [State.doRetryEnd]
  exact h.setLane l _ (fun hx => hx.withState (h.bound l hb) (by decide) (by decide)) (by simp)

/-! ### What an advance brings about, and how an event begins -/

theorem LanesKept.gap (h : LanesKept s t) (r : RefId) (p : Epoch) : LanesKept s (t.gap r p) := by
  simp only [State.gap]
  split <;> exact h.same rfl rfl rfl

theorem LanesKept.resolveFrom (r : RefId) (n : Nat) :
    ∀ {t : State} (p : Epoch), LanesKept s t → LanesKept s (t.resolveFrom r n p) := by
  induction n with
  | zero => exact fun _ h => h
  | succ n ih =>
    intro t p h
    refine ih _ ?_
    rw [State.resolveOne]
    split
    · exact h
    · exact h.gap r p

theorem LanesKept.resolve (h : LanesKept s t) (r : RefId) : LanesKept s (t.resolve r) := by
  simp only [State.resolve]
  split
  · exact h
  · exact h
  · split
    · exact h
    · exact (LanesKept.resolveFrom r _ _ h).same rfl rfl rfl

/-- An action of an advance; a retry countdown ends on a lane that is bound. -/
theorem LanesKept.act (h : LanesKept s t) (a : EpochAction)
    (hb : ∀ l, a = .retryEnd l → (s.lane l).state ≠ .unbound) : LanesKept s (t.act a) := by
  cases a with
  | onsetAge r | holdEnd r => exact h.same rfl rfl rfl
  | resolve r => exact h.resolve r
  | changeAge r =>
    simp only [State.act, State.doChangeAge]
    split
    · split
      · exact h.same rfl rfl rfl
      · exact h
    · exact h
  | expire l =>
    simp only [State.act, State.doExpire]
    split
    · exact h
    · refine LanesKept.raiseLane (h.setLane_same l _ fun hx => ?_) _ _
      exact hx.inputShortened (List.length_filter_le _ _)
  | acceptedAge l =>
    simp only [State.act, State.doAcceptedAge]
    split
    · split
      · exact h.setLane_same l _ id
      · exact h
    · exact h
  | retryEnd l => exact h.doRetryEnd (hb l rfl)
  | saveAge l =>
    simp only [State.act, State.doSaveAge]
    split
    · split
      · exact h.setLane_same l _ id
      · exact h
    · exact h

theorem LanesKept.actAll (as : List EpochAction)
    (hb : ∀ l, .retryEnd l ∈ as → (s.lane l).state ≠ .unbound) :
    ∀ {t : State}, LanesKept s t → LanesKept s (t.actAll as) := by
  induction as with
  | nil => exact fun h => h
  | cons a as ih =>
    refine fun h => ih (fun l hl => hb l (List.mem_cons_of_mem _ hl)) (h.act a fun l ha => hb l ?_)
    simp [ha]

/-- Fewer actions due are none the less those of bound lanes. -/
theorem State.lanesOk.withDue (h : s.lanesOk) {d : List EpochAction} (hd : ∀ a ∈ d, a ∈ s.due)
    (b : Bool) : ({ s with due := d, scrubAbandoned := b } : State).lanesOk := by
  obtain ⟨hlanes, hqueue, hjob, hends⟩ := h
  exact ⟨hlanes, hqueue, hjob, fun l hl => hends l (hd _ hl)⟩

theorem State.lanesOk.takeAction (h : s.lanesOk) (a : EpochAction) : (s.takeAction a).lanesOk := by
  simp only [State.takeAction]
  split
  · rename_i hdue
    refine ((LanesKept.refl _).act a fun l ha => ?_).ok
      (h.withDue (fun b hb => List.mem_of_mem_filter hb) s.scrubAbandoned)
    obtain ⟨-, -, -, hends⟩ := h
    exact hends l (by simpa [ha] using hdue)
  · exact h

/-- A pass starts on a lane with a frame waiting, so on a bound one (R63, R66). -/
theorem LanesKept.startPass (h : LanesKept s t) (l : LaneId) : LanesKept s (t.startPass l) := by
  simp only [State.startPass]
  split
  · exact h
  · rename_i f rest hinput
    refine LanesKept.handToTrackers ?_ l f
    have started : LanesKept s { t with engine := { t.engine with
        job := some (.pass (t.passInputs l f) ((t.passInputs l f).grantFrom t.engine.budget))
        budget := t.engine.budget - (t.passInputs l f).grantFrom t.engine.budget } } := by
      refine h.work rfl rfl (fun ht => ht.2.1) fun ht j hj => ?_
      obtain rfl := Option.some.inj hj
      exact (ht.lane l).bound_of_input (by simp [hinput])
    refine started.setLane_same l { t.lane l with input := rest, inFlight := some f } fun hx => ?_
    have shorter : rest.length ≤ (t.lane l).input.length := by simp [hinput]
    exact hx.inputShortened shorter

theorem LanesKept.startOldestPass (h : LanesKept s t) : LanesKept s t.startOldestPass := by
  simp only [State.startOldestPass]
  split
  · exact h
  · exact h.startPass _

@[simp] theorem State.jobOf_lane (s : State) (e : MaintEntry) : (s.jobOf e).lane = e.lane := by
  obtain ⟨kind, l⟩ := e
  cases kind <;> rfl

theorem LanesKept.startMaintenance (h : LanesKept s t) : LanesKept s t.startMaintenance := by
  simp only [State.startMaintenance]
  split
  · exact h
  · rename_i e rest hqueue
    refine h.work rfl rfl (fun ht a ha => ht.2.1 a ?_) fun ht j hj => ?_
    · rw [hqueue]
      exact List.mem_cons_of_mem _ ha
    · obtain rfl := Option.some.inj hj
      rw [State.jobOf_lane]
      exact ht.2.1 e (by simp [hqueue])

theorem LanesKept.arbitrate (h : LanesKept s t) : LanesKept s t.arbitrate := by
  simp only [State.arbitrate]
  split
  · exact h
  · split
    · exact h.startOldestPass
    · exact h.startMaintenance

theorem LanesKept.settleScrubber (h : LanesKept s t) : LanesKept s t.settleScrubber := by
  rw [State.settleScrubber]
  split
  · exact h
  · exact h.withStore _

/-- The state whose actions due are about to be carried out. -/
def State.dueTaken (s : State) : State := { s with due := [], scrubAbandoned := false }

theorem State.lanesOk.dueTaken (h : s.lanesOk) : s.dueTaken.lanesOk := h.withDue (by simp) _

theorem State.lanesOk.beginStart (h : s.lanesOk) : LanesKept s.dueTaken s.beginStart := by
  rw [State.beginStart, State.settleEpoch]
  refine LanesKept.same (LanesKept.actAll s.due ?_ (.refl _)) rfl rfl rfl
  obtain ⟨-, -, -, hends⟩ := h
  exact hends

theorem State.lanesOk.beginScrub (h : s.lanesOk) : LanesKept s.dueTaken s.beginScrub :=
  h.beginStart.arbitrate.same rfl rfl rfl

theorem State.lanesOk.beginEvent (h : s.lanesOk) : LanesKept s.dueTaken s.beginEvent :=
  h.beginScrub.settleScrubber

/-- An event begins with nothing due. -/
theorem State.lanesOk.beginEvent_due (h : s.lanesOk) : s.beginEvent.due = [] :=
  List.eq_nil_iff_forall_not_mem.mpr fun a ha => by
    simpa [State.dueTaken] using h.beginEvent.due a ha

end

end Sys2Proof.Machine
end

section
/-! SUPPORT. Every step keeps the lane records and the engine's work: the completions, then the commands by
their owners, then every row of the table. -/

namespace Sys2Proof.Machine

section
variable {s t u : State}

/-! ## The completions -/

theorem LanesKept.landUpdates (l : LaneId) (fz : Vector (Option Freeze) 3) (us : List Update) :
    ∀ {t : State}, LanesKept s t → LanesKept s (t.landUpdates l fz us) := by
  induction us with
  | nil => exact fun h => h
  | cons u us ih =>
    intro t h
    simp only [State.landUpdates]
    apply ih
    split
    · exact LanesKept.withStore (h.setLane_same l _ (by exact id)) _
    · exact h

theorem LanesKept.talkStep (h : LanesKept s t) (l : LaneId) {res : PassResults}
    (hres : 0 < res.hangover → res.talk = .double) : LanesKept s (t.talkStep l res) := by
  refine h.setLane_same l _ fun hx => ?_
  obtain ⟨hin, hout, hstack, hretry, -, hrest⟩ := hx
  exact ⟨hin, hout, hstack, hretry, hres, hrest⟩

theorem LanesKept.testLatch (h : LanesKept s t) (l : LaneId) (m : Meter) (n : Nat) :
    LanesKept s (t.testLatch l m n) := by
  simp only [State.testLatch]
  split
  · split
    · exact h.raiseLane _ _
    · exact h
  · split
    · exact LanesKept.raiseLane (h.setLane_same l _ (by exact id)) _ _
    · exact h

theorem LanesKept.autoSave (h : LanesKept s t) (l : LaneId) (g : Guard) (n : Nat) :
    LanesKept s (t.autoSave l g n) := by
  simp only [State.autoSave]
  split
  · exact h.request _ _
  · exact h

theorem LanesKept.meterStep (h : LanesKept s t) (l : LaneId) (start : Lane) (b : Bool)
    (k : TalkState) (em eo : Nat) : LanesKept s (t.meterStep l start b k em eo) := by
  have metered : ∀ {v : State} (x : Meter), LanesKept s v →
      LanesKept s (v.setLane l { v.lane l with meter := x }) :=
    fun _ hv => hv.setLane_same l _ (by exact id)
  simp only [State.meterStep, State.meterWindow]
  split
  · split
    · split
      · exact ((metered _ (metered _ h)).testLatch l _ _).autoSave l _ _
      · exact metered _ (metered _ h)
    · exact metered _ (metered _ h)
  · exact metered _ h

/-- A trip of a RUN lane: TRIPPED with a countdown or LOCKOUT with none (R125 to R127). -/
theorem LanesKept.trip (h : LanesKept s t) {l : LaneId} (hrun : (t.lane l).state = .run) (g : Guard) :
    LanesKept s (t.trip l g) := by
  have hb : (t.lane l).state ≠ .unbound := by simp [hrun]
  have dropped : LanesKept s (t.dropSave l) := h.removeEntries _
  simp only [State.trip]
  split
  · refine LanesKept.raiseLane (LanesKept.request (dropped.setLane l _ ?_ (by simp)) l _) _ _
    exact fun hx => hx.withState hb (by decide) (by simp)
  · refine LanesKept.raiseLane (LanesKept.request (dropped.setLane l _ ?_ (by simp)) l _) _ _
    intro hx
    have hnone : (t.lane l).guard.retry = none := hx.retry_none (by simp [State.dropSave, hrun])
    exact hx.withState hb (by decide) (retry := (t.lane l).guard.retry) (by simp [hnone])

theorem LanesKept.guardStep (h : LanesKept s t) (l : LaneId) (g : Guard) (v : Verdict) :
    LanesKept s (t.guardStep l g v) := by
  simp only [State.guardStep, State.setDivergence]
  split
  · rename_i hrun
    split
    · exact h
    · exact h.setLane_same l _ (by exact id)
    · exact h.setLane_same l _ (by exact id)
    · exact h.trip hrun g
  · exact h

theorem LanesKept.outputStep (h : LanesKept s t) {l : LaneId} (hb : (s.lane l).state ≠ .unbound)
    (o : OutFrame) : LanesKept s (t.outputStep l o) := by
  have inserted := LanesKept.insertOutput
    (h.setLane_same l { t.lane l with inFlight := none } id) hb o
  simp only [State.outputStep]
  split
  · exact inserted.flush hb
  · exact inserted

theorem LanesKept.countPass (h : LanesKept s t) : LanesKept s t.countPass :=
  h.work rfl rfl (fun ht => ht.2.1) fun ht => ht.2.2.1

theorem LanesKept.completePass (h : LanesKept s t) (i : PassInputs) (g : Nat)
    (hb : (s.lane i.lane).state ≠ .unbound) : LanesKept s (t.completePass i g) := by
  simp only [State.completePass]
  refine LanesKept.engineIdle (LanesKept.countPass ?_)
  split
  · exact h.setLane_same _ _ (by exact id)
  · simp only [State.landResults, State.cursorStep]
    refine LanesKept.outputStep (LanesKept.setLane_same (LanesKept.guardStep (LanesKept.meterStep
      (LanesKept.talkStep (LanesKept.landUpdates _ _ _ h) _ ?_) _ _ _ _ _ _) _ _ _) _ _ (by exact id)) hb _
    exact classify_hangover _ _

theorem length_dropBottom (cs : CheckpointStore) (stack : List Checkpoint) :
    (dropBottom cs stack).2.length = stack.length - 1 := by
  simp only [dropBottom]
  split
  · rename_i hnone
    simp [List.getLast?_eq_none_iff.mp hnone]
  · simp

theorem length_makeRoom (need fuel : Nat) :
    ∀ (cs : CheckpointStore) (stack : List Checkpoint),
      (makeRoom need fuel cs stack).2.length ≤ stack.length := by
  induction fuel with
  | zero => exact fun _ _ => le_refl _
  | succ n ih =>
    intro cs stack
    rw [makeRoom]
    split
    · refine (ih _ _).trans ?_
      rw [length_dropBottom]
      exact Nat.sub_le _ _
    · exact le_refl _

/-- A SAVE drops the bottom entry of a full stack, and then pushes at most one (R134). -/
theorem LanesKept.completeSave (h : LanesKept s t) {l : LaneId} (hb : (s.lane l).state ≠ .unbound)
    (x : Lane) (c : Chains) (e : Epoch) : LanesKept s (t.completeSave l x c e) := by
  have hbt := h.bound l hb
  simp only [State.completeSave]
  refine LanesKept.engineIdle ?_
  generalize ha : (if Config.stackDepth ≤ (t.lane l).guard.stack.length then
    dropBottom t.checkpoints (t.lane l).guard.stack
    else (t.checkpoints, (t.lane l).guard.stack)) = a
  generalize hroom : makeRoom _ _ a.1 a.2 = b
  have room : (t.lane l).ok → b.2.length ≤ 3 := by
    rintro ⟨-, -, hstack, -⟩
    rw [← hroom]
    refine (length_makeRoom _ _ _ _).trans ?_
    rw [← ha]
    split
    · rw [length_dropBottom]
      omega
    · simp only [Config.stackDepth] at *
      omega
  split
  · refine LanesKept.raiseLane (LanesKept.withCheckpoints (h.setLane_same l _ fun hx => ?_) _) _ _
    exact hx.withStack hbt ((room hx).trans (by decide))
  · refine LanesKept.withCheckpoints (h.setLane_same l _ fun hx => ?_) _
    exact hx.withStack hbt (es := _ :: b.2) (Nat.succ_le_succ (room hx))

theorem LanesKept.completeRestore (h : LanesKept s t) {l : LaneId}
    (hb : (s.lane l).state ≠ .unbound) (x : Lane) (c : Chains) :
    LanesKept s (t.completeRestore l x c) := by
  have written : LanesKept s (t.writeChains l (restoredChains x c)) := h.withStore _
  simp only [State.completeRestore]
  refine LanesKept.engineIdle ?_
  split
  · rename_i e rest _ hstack
    refine LanesKept.withCheckpoints (written.setLane_same l _ fun hx => ?_) _
    refine hx.withStack (written.bound l hb) ?_
    obtain ⟨-, -, hlen, -⟩ := hx
    rw [hstack] at hlen
    exact (Nat.le_succ _).trans hlen
  · exact written

/-- A CLEARING lane has no countdown and becomes BYPASS (R38). -/
theorem LanesKept.completeClear (h : LanesKept s t) (l : LaneId) :
    LanesKept s (t.completeClear l) := by
  have written : LanesKept s (t.writeChains l (zeroChains (t.lane l))) := h.withStore _
  simp only [State.completeClear]
  refine LanesKept.engineIdle ?_
  split
  · rename_i hclearing
    refine written.setLane l { t.lane l with state := .bypass } (fun hx => ?_) (by simp)
    have hnone : (t.lane l).guard.retry = none :=
      Lane.ok.retry_none (x := t.lane l) hx (by simp [hclearing])
    exact Lane.ok.withState (x := t.lane l) hx (by simp [hclearing]) (st := .bypass) (by decide)
      (retry := (t.lane l).guard.retry) (by simp [hnone])
  · exact written

theorem LanesKept.completeShift (h : LanesKept s t) (l : LaneId) (r : RefId) (d : Int)
    (old : List Partition) : LanesKept s (t.completeShift l r d old) := by
  simp only [State.completeShift]
  have landed := h.withStore (t.store.writeChain l r 0 (shiftChain old d))
  have moved := landed.setLane_same l { t.lane l with
    delays := (t.lane l).delays.set r (some (t.realign r).target) } id
  exact moved.engineIdle.realigned
    (Realigned.endRealignIfDone (T := fun _ => True) (R := fun _ => True) (Q := fun _ => True) (.refl _) trivial
      fun _ => trivial)

/-! ## The commands -/

/-- A command keeps the invariant if its owner's effect does, on a state with nothing due. -/
theorem lanesOk_of_command {k : Kind} {p : Port} {m : Message} {owner : State → Reply} (hs : s.lanesOk)
    (h : takeCommand k p m s owner = .next t)
    (ho : ∀ u, u.lanesOk → u.due = [] → (owner u).after.lanesOk) : t.lanesOk := by
  have begun := hs.beginEvent.ok hs.dueTaken
  exact takeCommand_after h hs begun (ho _ begun hs.beginEvent_due) fun _ _ _ _ hu =>
    ((LanesKept.refl _).setPort _ _).ok hu

/-- No condition of R22's table holds: the lane is not UNBOUND, and the frame is passed through or finds
room in the input queue. -/
theorem micRefusal_none {u : State} {l : LaneId} {e : Epoch} (h : micRefusal u l e = none) :
    (u.lane l).state ≠ .unbound ∧ (passesThrough (u.lane l).state = true ∧ u.passInFlight l = false
      ∨ (u.lane l).input.length < 4) := by
  simp only [micRefusal] at h
  split_ifs at h with hunbound hclearing _ _ _ hruns hpasses
  refine ⟨hunbound, ?_⟩
  by_cases hroom : (u.lane l).input.length < 4
  · exact .inr hroom
  have hfull : Config.queueDepth ≤ (u.lane l).input.length := not_lt.mp hroom
  simp only [hfull, decide_true, Bool.and_true] at hruns hpasses
  have hpass : passesThrough (u.lane l).state = true := by
    cases hst : (u.lane l).state <;> simp_all [runsPasses, passesThrough]
  exact .inl ⟨hpass, by simpa [hpass] using hpasses⟩

/-- An accepted microphone frame joins an input queue with room, or is passed through (R22 to R25). -/
theorem lanesKept_acceptMic (u : State) {l : LaneId} {f : InFrame}
    (h : micRefusal u l f.epoch = none) : LanesKept u (u.acceptMic l f) := by
  have counted := (LanesKept.refl u).setLane_same l (countAccepted (u.lane l) f.epoch) id
  obtain ⟨hb, hroom⟩ := micRefusal_none h
  simp only [State.acceptMic]
  split
  · exact counted.passFrame hb f
  · rename_i hqueued
    refine LanesKept.setLane_same (.refl u) l _ fun hx => ?_
    have hlen : (u.lane l).input.length < 4 := by
      refine hroom.resolve_left fun hpass => hqueued ?_
      simp [countAccepted, hpass]
    exact hx.withInput hb (fs := (u.lane l).input ++ [f]) (by simp; omega)

theorem lanesKept_saveReply (u : State) (l : LaneId) : LanesKept u (saveReply u l).after := by
  have queued := (LanesKept.refl u).request l .save
  rw [saveReply]
  split
  · exact .refl u
  · exact .refl u
  · exact .refl u
  · exact queued
  · exact queued
  · exact queued

/-- A BYPASS lane becomes RUN; neither state has a countdown (R31). -/
theorem lanesKept_setModeRun (u : State) (l : LaneId) : LanesKept u (setModeRun u l).after := by
  simp only [setModeRun]
  split
  · exact .refl u
  · rename_i hbypass
    split
    · exact .refl u
    · refine (LanesKept.refl u).setLane l _ (fun hx => ?_) (by simp)
      have hnone := hx.retry_none (by simp [hbypass])
      exact hx.withState (by simp [hbypass]) (st := .run) (by decide)
        (retry := (u.lane l).guard.retry) (by simp [hnone])
  · exact .refl u
  · exact .refl u
  · exact .refl u
  · exact .refl u

/-- A bound lane becomes BYPASS with its countdown ended (R32). -/
theorem lanesKept_enterBypass (u : State) {l : LaneId} (hb : (u.lane l).state ≠ .unbound) :
    LanesKept u (u.enterBypass l) := by
  have entered := (LanesKept.refl u).setLane l
    { u.lane l with state := .bypass, guard := endRetry (u.lane l).guard }
    (fun hx => hx.withState hb (by decide) (by simp [endRetry])) (by simp)
  simp only [State.enterBypass]
  split
  · exact entered
  · exact entered.flush hb

theorem lanesKept_setModeBypass (u : State) (l : LaneId) :
    LanesKept u (setModeBypass u l).after := by
  have entered : ∀ {st : LaneState}, (u.lane l).state = st → st ≠ .unbound →
      LanesKept u (u.enterBypass l) := fun hst hb => lanesKept_enterBypass u (hst ▸ hb)
  rw [setModeBypass]
  split
  · exact .refl u
  · exact entered ‹_› (by decide)
  · exact entered ‹_› (by decide)
  · exact entered ‹_› (by decide)
  · exact .refl u
  · exact .refl u

theorem lanesKept_resizeReply (u : State) (l : LaneId) (tail : Nat) :
    LanesKept u (resizeReply u l tail).after := by
  have resized : ∀ st : Store,
      LanesKept u ({ u with store := st }.setLane l (resizedLane (u.lane l) tail)) :=
    fun st => ((LanesKept.refl u).withStore st).setLane_same l _ (by exact id)
  simp only [resizeReply]
  split
  · exact resized u.store
  split
  · split
    · exact .refl u
    · exact resized _
  · exact resized _

theorem lanesKept_clearLane (u : State) {l : LaneId} (hb : (u.lane l).state ≠ .unbound) :
    LanesKept u (u.clearLane l) := by
  have removed := (LanesKept.refl u).removeEntries (resetRemoves l)
  have cleared := removed.setLane l (clearingLane (u.lane l) (u.resetDelays l))
    (fun hx => Lane.ok_clearingLane (x := u.lane l) hx hb _) (by simp [clearingLane])
  exact (cleared.request l .clear).realigned (Realigned.endRealigns (T := fun _ => True) (R := fun _ => True)
    (Q := fun _ => True) _ (allRefs_nodup.filter _) (.refl _) (fun _ _ => trivial) fun _ _ _ => trivial)

/-- UNBIND is held off while a SAVE, RESTORE or CLEAR waits or a job runs, and removes the SHIFTs, so no
work of the lane is left (R35). -/
theorem lanesOk_unbindLane (hu : u.lanesOk) (hdue : u.due = []) {l : LaneId}
    (hfree : u.holdsOffUnbind l = false) : (u.unbindLane l).lanesOk := by
  obtain ⟨hlanes, hqueue, hjob, -⟩ := hu
  simp only [State.holdsOffUnbind, State.jobInFlight, State.waiting, Bool.or_eq_false_iff] at hfree
  obtain ⟨⟨⟨hidle, hsave⟩, hrestore⟩, hclear⟩ := hfree
  simp only [State.unbindLane, State.removeEntries_store]
  generalize u.store.release l 0 = st
  refine LanesKept.ok (LanesKept.realigned (.refl _) (Realigned.endRealigns (T := fun _ => True) (R := fun _ => True)
    (Q := fun _ => True) _ (allRefs_nodup.filter _) (.refl _) (fun _ _ => trivial)
    fun _ _ _ => trivial)) ?_
  refine ⟨fun k => ?_, fun e he => ?_, fun j hj => ?_, fun k hk => ?_⟩
  · rw [State.lane_setLane]
    split
    · exact (hlanes l).unbound
    · exact hlanes k
  · obtain ⟨hmem, hkept⟩ := List.mem_filter.mp he
    have hne : e.lane ≠ l := by
      rintro rfl
      obtain ⟨kind, k⟩ := e
      cases kind <;> simp_all [MaintEntry.isShift]
    rw [State.lane_setLane, if_neg hne]
    exact hqueue e hmem
  · have hne : j.lane ≠ l := fun heq => by
      have hj' : u.engine.job = some j := hj
      simp [hj', heq] at hidle
    rw [State.lane_setLane, if_neg hne]
    exact hjob j hj
  · have hk' : EpochAction.retryEnd k ∈ u.due := hk
    simp [hdue] at hk'

/-! ## Resets and the advance -/

/-- At a reset every lane is UNBOUND and no work is left. -/
theorem lanesOk_of_reset (hl : t.lanes = State.reset.lanes) (he : t.engine = State.reset.engine)
    (hd : t.due = []) : t.lanesOk := by
  refine (LanesKept.same (.refl State.reset) hl he ?_).ok lanesOk_reset
  rw [hd]
  rfl

/-- An advance makes the end of a countdown due on TRIPPED lanes alone (R128). -/
theorem State.lanesOk.advance (h : s.lanesOk) : s.advance.lanesOk := by
  have hstate : ∀ l, (s.advance.lane l).state = (s.lane l).state := fun l => by
    rw [State.advance_lane, retryTick_eq]
  obtain ⟨hlanes, hqueue, hjob, -⟩ := h
  refine ⟨fun l => ?_, fun e he => ?_, fun j hj => ?_, fun l hl => ?_⟩
  · rw [State.advance_lane]
    exact (hlanes l).retryTicked
  · rw [hstate]
    exact hqueue e he
  · rw [hstate]
    exact hjob j hj
  · have htripped : s.retryEnds l = true := by
      simpa [State.advance, State.actionsDue, allLanes] using hl
    simp only [State.retryEnds, Bool.and_eq_true, beq_iff_eq] at htripped
    rw [hstate, htripped.1]
    decide

end

end Sys2Proof.Machine
end

section
/-! SUPPORT. Every row of the table keeps the lane records and the engine's work. -/

namespace Sys2Proof.Machine

/-- An event whose next state meets the invariant. -/
theorem lanesOk_of_event {u t : State}
    (h : (Host.Outcome.next u : Host.Outcome State Fault Refusal) = .next t) (hu : u.lanesOk) :
    t.lanesOk := by
  cases h
  exact hu

/-- A command whose owner's effect keeps the lane records. -/
theorem lanesOk_of_kept {k : Kind} {p : Port} {m : Message} {owner : State → Reply} {s t : State}
    (hs : s.lanesOk) (h : takeCommand k p m s owner = .next t)
    (ho : ∀ u, LanesKept u (owner u).after) : t.lanesOk :=
  lanesOk_of_command hs h fun u hu _ => (ho u).ok hu

/-- `onBoundLane_after`, for an owner that needs its lane bound. -/
theorem onBoundLane_after_of_bound {P : State → Prop} {m : Message} {s : State}
    {f : LaneId → Reply} (h0 : P s) (h : ∀ l, (s.lane l).state ≠ .unbound → P (f l).after) :
    P (onBoundLane m s f).after := by
  refine onLane_after h0 fun l => ?_
  split
  · exact h0
  · exact h l ‹_›

theorem lanesKept_frameReply (u : State) (r : RefId) (e : Epoch) (f : Frame) :
    LanesKept u (frameReply u r e f).after := by
  have counted : ∀ x, LanesKept u (u.setRef r x) := fun x => (LanesKept.refl u).same rfl rfl rfl
  simp only [frameReply]
  split
  · exact .refl u
  split
  · exact counted _
  split
  · exact counted _
  split
  · exact counted _
  split
  · exact .refl u
  · simp only [answer_after, State.acceptReference]
    split
    · exact (LanesKept.refl u).same rfl rfl rfl
    · exact (LanesKept.refl u).same rfl rfl rfl

theorem lanesKept_declareReply (u : State) (r : RefId) :
    LanesKept u (u.declareActive r) ∧ LanesKept u (declareInactive u r).after := by
  rw [State.declareActive, declareInactive]
  refine ⟨?_, ?_⟩
  · split
    · exact (LanesKept.refl u).same rfl rfl rfl
    · exact .refl u
  · split
    · exact .refl u
    split
    · exact .refl u
    · exact (LanesKept.refl u).same rfl rfl rfl

/-- COEFF WRITE counts the values it clamped in the lane's record (R55). -/
theorem lanesKept_writeReply (u : State) (m : Message) (l : LaneId) (r : RefId)
    (start trueLength : Nat) : LanesKept u (writeReply u m l r start trueLength).after := by
  simp only [writeReply]
  split
  · exact .refl u
  · exact ((LanesKept.refl u).withStore _).setLane_same l _ (by exact id)

/-- REARM: a LOCKOUT lane has no countdown and becomes RUN (R129). -/
theorem lanesKept_rearm {u : State} {l : LaneId} (h : (u.lane l).state = .lockout) :
    LanesKept u (u.setLane l (rearmedLane (u.lane l))) := by
  refine (LanesKept.refl u).setLane l _ (fun hx => ?_) (by simp [rearmedLane])
  have hnone := hx.retry_none (by simp [h])
  exact hx.withState (by simp [h]) (st := .run) (by decide) (retry := (u.lane l).guard.retry)
    (by simp [hnone])

/-- Every row keeps the invariant. -/
theorem exec_lanesOk {c : Instr} {s t : State} (hs : s.lanesOk) (h : exec c s = .next t) :
    t.lanesOk := by
  have begun := hs.beginEvent.ok hs.dueTaken
  have keep : ∀ {v}, LanesKept s.beginEvent v → v.lanesOk := fun hv => hv.ok begun
  have alone : ∀ {v : State}, v.lanes = s.beginEvent.lanes → v.engine = s.beginEvent.engine →
      v.due = s.beginEvent.due → v.lanesOk :=
    fun hl he hd => keep ((LanesKept.refl _).same hl he hd)
  cases c with
  | powerOn => exact lanesOk_of_event h (lanesOk_of_reset rfl rfl rfl)
  | resetNAssert => exact lanesOk_of_event h (lanesOk_of_reset rfl rfl rfl)
  | resetNRelease =>
    refine lanesOk_of_event h ?_
    split
    · exact alone rfl rfl rfl
    · exact alone rfl rfl rfl
  | epochAdvance =>
    refine lanesOk_of_event h ?_
    split
    · exact begun
    · exact begun.advance
  | epochResolution r =>
    refine lanesOk_of_event h ?_
    split
    · exact (hs.takeAction _).takeAction _
    · exact hs
  | frameExpiry _ | lastAcceptedEpochAgeOut _ | retryCountdownEnd _ | holdCountdownEnd _
  | lastChangeAgeOut _ | onsetRecordAgeOut _ | lastSaveEpochAgeOut _ =>
    exact lanesOk_of_event h (hs.takeAction _)
  | transactionTruncated c =>
    refine lanesOk_of_event h ?_
    split
    · exact alone rfl rfl rfl
    · exact begun
  | responseCut p | responseSent c | transactionEnd p =>
    refine lanesOk_of_event h ?_
    split
    · exact alone rfl rfl rfl
    · exact begun
  | transactionStart c =>
    simp only [exec, execTransactionStart] at h
    split at h
    · cases h
    · refine lanesOk_of_event h ?_
      split
      · exact begun
      · exact alone rfl rfl rfl
  | unknownKind p code m =>
    simp only [exec, execUnknownKind] at h
    split at h
    · cases h
    split at h
    · exact lanesOk_of_event h hs
    · exact lanesOk_of_event h
        (keep ((((LanesKept.refl _).setPort _ _).raise _ _).setPort _ _))
  | passStart =>
    refine lanesOk_of_event h ?_
    split
    · exact hs.beginStart.ok hs.dueTaken
    · exact hs.beginStart.startOldestPass.ok hs.dueTaken
  | maintenanceStart =>
    refine lanesOk_of_event h ?_
    split
    · exact hs.beginStart.ok hs.dueTaken
    · exact hs.beginStart.startMaintenance.ok hs.dueTaken
  | passComplete =>
    refine lanesOk_of_event h ?_
    split
    · rename_i inputs grant hjob
      exact keep ((LanesKept.refl _).completePass inputs grant (begun.job_bound hjob))
    · exact begun
  | saveComplete =>
    refine lanesOk_of_event h ?_
    split
    · rename_i hjob
      exact keep ((LanesKept.refl _).completeSave (begun.job_bound hjob) _ _ _)
    · exact begun
  | restoreComplete =>
    refine lanesOk_of_event h ?_
    split
    · rename_i hjob
      exact keep ((LanesKept.refl _).completeRestore (begun.job_bound hjob) _ _)
    · exact begun
  | clearComplete =>
    refine lanesOk_of_event h ?_
    split
    · exact keep ((LanesKept.refl _).completeClear _)
    · exact begun
  | shiftComplete =>
    refine lanesOk_of_event h ?_
    split
    · exact keep ((LanesKept.refl _).completeShift _ _ _ _)
    · exact begun
  | scrubStart => exact lanesOk_of_event h (hs.beginScrub.settleScrubber.ok hs.dueTaken)
  | scrubComplete =>
    refine lanesOk_of_event h ?_
    split
    · split
      · exact begun
      · exact alone rfl rfl rfl
    · exact begun
  | declareRef p m =>
    refine lanesOk_of_kept hs h fun u => onRef_after (.refl u) fun r => ?_
    split
    · exact .refl u
    split
    · exact .refl u
    · exact (lanesKept_declareReply u r).1
    · exact (lanesKept_declareReply u r).2
  | refFrame p m =>
    refine lanesOk_of_kept hs h fun u => onRef_after (.refl u) fun r => ?_
    split
    · exact .refl u
    · exact lanesKept_frameReply u r _ _
  | refConfig p m =>
    refine lanesOk_of_kept hs h fun u => onRef_after (.refl u) fun r => ?_
    split
    · exact .refl u
    · exact (LanesKept.refl u).same rfl rfl rfl
  | refStatus p m | trackerStatus p m =>
    exact lanesOk_of_kept hs h fun u => onRef_after (.refl u) fun r => .refl u
  | historyRead p m =>
    refine lanesOk_of_kept hs h fun u => onRef_after (.refl u) fun r => ?_
    split <;> exact .refl u
  | trackerConfig p m =>
    refine lanesOk_of_kept hs h fun u => onRef_after (.refl u) fun r => ?_
    split
    · exact (LanesKept.refl u).same rfl rfl rfl
    · exact .refl u
  | trackerClear p m =>
    exact lanesOk_of_kept hs h fun u => onRef_after (.refl u) fun r =>
      (LanesKept.refl u).same rfl rfl rfl
  | setDelay p m =>
    exact lanesOk_of_kept hs h fun u => onRef_after (.refl u) fun r => (LanesKept.refl u).realigned
      (Realigned.commit (T := fun _ => True) (R := fun _ => True) (Q := fun _ => True) (.refl u) trivial
        trivial _ _)
  | nop p m | engineStatus p m =>
    exact lanesOk_of_kept hs h fun u => onZero_after (.refl u) (.refl u)
  | noticeRead p m | noticeArm p m =>
    exact lanesOk_of_kept hs h fun u => onZero_after (.refl u) ((LanesKept.refl u).setPort _ _)
  | noticeConfig p m =>
    refine lanesOk_of_kept hs h fun u => onZero_after (.refl u) ?_
    split
    · exact .refl u
    split
    · exact .refl u
    · exact (LanesKept.refl u).setPort _ _
  | deviceReset p m =>
    refine lanesOk_of_command hs h fun u hu _ => onZero_after hu ?_
    exact lanesOk_of_reset rfl rfl rfl
  | micFrame p m =>
    refine lanesOk_of_kept hs h fun u => onLane_after (.refl u) fun l => ?_
    split
    · exact .refl u
    · rename_i haccepted
      exact lanesKept_acceptMic u haccepted
  | fetch p m =>
    refine lanesOk_of_kept hs h fun u => onBoundLane_after_of_bound (.refl u) fun l hb => ?_
    split
    · exact .refl u
    · rename_i f rest hout
      refine (LanesKept.refl u).setLane_same l _ fun hx => hx.withOutput hb ?_
      obtain ⟨-, hlen, -⟩ := hx
      rw [hout] at hlen
      exact (Nat.le_succ _).trans hlen
  | setMode p m =>
    refine lanesOk_of_kept hs h fun u => onLane_after (.refl u) fun l => ?_
    split
    · exact .refl u
    · exact lanesKept_setModeRun u l
    · exact lanesKept_setModeBypass u l
  | bind p m =>
    refine lanesOk_of_kept hs h fun u => onLane_after (.refl u) fun l => ?_
    split
    · exact .refl u
    split
    · split
      · exact .refl u
      · exact ((LanesKept.refl u).withStore _).setLane l _ (fun _ => Lane.ok_boundLane u _ _)
          (by simp [State.boundLane])
    · exact .refl u
  | unbind p m =>
    refine lanesOk_of_command hs h fun u hu hdue => onBoundLane_after hu fun l => ?_
    split
    · exact hu
    · rename_i hfree
      exact lanesOk_unbindLane hu hdue (Bool.eq_false_iff.mpr hfree)
  | resize p m =>
    refine lanesOk_of_kept hs h fun u => onLane_after (.refl u) fun l => ?_
    split
    · exact .refl u
    split
    · exact .refl u
    split
    · exact .refl u
    · exact lanesKept_resizeReply u l _
  | resetLane p m =>
    exact lanesOk_of_kept hs h fun u => onBoundLane_after_of_bound (.refl u) fun l hb =>
      lanesKept_clearLane u hb
  | laneStatus p m | storeStatus p m | guardStatus p m =>
    exact lanesOk_of_kept hs h fun u => onLane_after (.refl u) fun l => .refl u
  | talkStatus p m | meterRead p m =>
    exact lanesOk_of_kept hs h fun u => onBoundLane_after (.refl u) fun l => .refl u
  | coeffRead p m =>
    refine lanesOk_of_kept hs h fun u => onLane_after (.refl u) fun l => ?_
    split
    · exact .refl u
    split
    · exact .refl u
    split
    · exact .refl u
    · rw [readReply_after]
      exact .refl u
  | coeffWrite p m =>
    refine lanesOk_of_kept hs h fun u => onLane_after (.refl u) fun l => ?_
    split
    · exact .refl u
    split
    · exact .refl u
    split
    · exact .refl u
    split
    · exact .refl u
    split
    · exact .refl u
    split
    · exact .refl u
    · exact lanesKept_writeReply u m l _ _ _
  | laneConfig p m | talkConfig p m | meterConfig p m =>
    exact lanesOk_of_kept hs h fun u => onBoundLane_after (.refl u) fun l =>
      (LanesKept.refl u).setLane_same l _ (by exact id)
  | rearm p m =>
    refine lanesOk_of_kept hs h fun u => onLane_after (.refl u) fun l => ?_
    split
    · exact .refl u
    split
    · exact .refl u
    · rename_i hlocked _
      exact lanesKept_rearm (not_not.mp hlocked)
  | saveCheckpoint p m =>
    exact lanesOk_of_kept hs h fun u => onLane_after (.refl u) fun l => lanesKept_saveReply u l
  | dropCheckpoints p m =>
    refine lanesOk_of_kept hs h fun u => onBoundLane_after_of_bound (.refl u) fun l hb => ?_
    split
    · exact .refl u
    · exact ((LanesKept.refl u).withCheckpoints _).setLane_same l _ fun hx =>
        Lane.ok.withStack (x := u.lane l) hx hb (es := []) (Nat.zero_le _)
  | guardConfig p m =>
    refine lanesOk_of_kept hs h fun u => onLane_after (.refl u) fun l => ?_
    split
    · exact .refl u
    split
    · exact .refl u
    · exact (LanesKept.refl u).setLane_same l _ (by exact id)

/-- Settles O56: the rows keep the invariant, and a step is a row or nothing. -/
theorem laneInvariantKept : Obligations.LaneInvariantKept := by
  intro s t hs h
  rw [step] at h
  split at h
  · exact lanesOk_of_event h hs
  · rename_i rest _
    have dequeued : LanesKept s { s with pending := rest } := (LanesKept.refl s).same rfl rfl rfl
    exact exec_lanesOk (dequeued.ok hs) h

end Sys2Proof.Machine
end

section
/-! SUPPORT. The rows of an advance that age a record or end a countdown: what each action does while it is
due (R28, R99, R102, R122, R128). -/

namespace Sys2Proof.Machine

/-- A value that may be absent and passes the test stays. -/
theorem filter_eq_self_of_all {α : Type} {o : Option α} {p : α → Bool} (h : ∀ a, o = some a → p a = true) :
    o.filter p = o := by
  cases o with
  | none => rfl
  | some a => simp [h a rfl]

theorem filter_eq_none_of_not {α : Type} {a : α} {p : α → Bool} (h : p a = false) :
    (some a).filter p = none := by
  simp [Option.filter, h]

theorem State.doAcceptedAge_eq (s : State) (l : LaneId) :
    s.doAcceptedAge l = s.setLane l { s.lane l with
      lastAccepted := (s.lane l).lastAccepted.filter fun e => decide (behind s.epoch e < 1024) } := by
  have stays : (∀ e, (s.lane l).lastAccepted = some e → behind s.epoch e < 1024) →
      s = s.setLane l { s.lane l with
        lastAccepted := (s.lane l).lastAccepted.filter fun e => decide (behind s.epoch e < 1024) } := by
    intro h
    rw [filter_eq_self_of_all (by simpa using h)]
    exact (State.setLane_lane_self s l).symm
  simp only [State.doAcceptedAge]
  split
  · rename_i e he
    split
    · rename_i hold
      rw [he, filter_eq_none_of_not (by simpa using hold)]
    · rename_i hyoung
      exact stays (by simpa [he] using hyoung)
  · rename_i hnone
    exact stays (by simp [hnone])

theorem State.doSaveAge_eq (s : State) (l : LaneId) :
    s.doSaveAge l = s.setLane l { s.lane l with guard := { (s.lane l).guard with
      lastSave := (s.lane l).guard.lastSave.filter fun e => decide (behind s.epoch e < 4096) } } := by
  have stays : (∀ e, (s.lane l).guard.lastSave = some e → behind s.epoch e < 4096) →
      s = s.setLane l { s.lane l with guard := { (s.lane l).guard with
        lastSave := (s.lane l).guard.lastSave.filter fun e => decide (behind s.epoch e < 4096) } } := by
    intro h
    rw [filter_eq_self_of_all (by simpa using h)]
    exact (State.setLane_lane_self s l).symm
  simp only [State.doSaveAge]
  split
  · rename_i e he
    split
    · rename_i hold
      rw [he, filter_eq_none_of_not (by simpa using hold)]
    · rename_i hyoung
      exact stays (by simpa [he] using hyoung)
  · rename_i hnone
    exact stays (by simp [hnone])

theorem State.doChangeAge_eq (s : State) (r : RefId) :
    s.doChangeAge r = s.setRealign r { s.realign r with
      lastChange := (s.realign r).lastChange.filter fun c => decide (behind s.epoch c.2 < 64) } := by
  have stays : (∀ c, (s.realign r).lastChange = some c → behind s.epoch c.2 < 64) →
      s = s.setRealign r { s.realign r with
        lastChange := (s.realign r).lastChange.filter fun c => decide (behind s.epoch c.2 < 64) } := by
    intro h
    rw [filter_eq_self_of_all (by simpa using h)]
    exact (State.setRealign_realign_self s r).symm
  simp only [State.doChangeAge]
  split
  · rename_i d e he
    split
    · rename_i hold
      rw [he, filter_eq_none_of_not (by simpa using hold)]
    · rename_i hyoung
      exact stays (by simpa [he] using hyoung)
  · rename_i hnone
    exact stays (by simp [hnone])

theorem ageOnset_opened {t : Tracker} {o : Onset} (hs : t.state = .opened) (ho : t.onset = some o)
    (now : Epoch) : ageOnset t now = if 40 < behind now o.epoch then { t with
      state := .disarmed, quietCount := 0, onset := none
      missCount := BitVec.ofNat 16 (min 65535 (t.missCount.toNat + 1)) } else t := by
  simp only [ageOnset, hs, ho]
  rfl

theorem ageOnset_not_opened {t : Tracker} (hs : t.state ≠ .opened) (now : Epoch) :
    ageOnset t now = t := by
  rw [ageOnset]
  split
  · exact absurd ‹_› hs
  · rfl

/-- Settles O15: each row carries out its action, which is due, and the action is its equation above. -/
theorem ageingRowsTable : Obligations.AgeingRowsTable := by
  have due : ∀ {s : State} {a : EpochAction}, a ∈ s.due →
      (Host.Outcome.next (s.takeAction a) : Host.Outcome State Fault Refusal) =
        .next (({ s with due := s.due.filter fun b => b ≠ a } : State).act a) :=
    fun h => congrArg _ (State.takeAction_due h)
  refine ⟨fun l s => ?_, fun r s => ?_⟩
  · intro x left old
    refine ⟨fun h => ?_, fun h => ?_, fun h => ?_, fun h => ?_⟩
    · exact due h
    · exact (due h).trans (congrArg _ (State.doAcceptedAge_eq (left (.acceptedAge l)) l))
    · exact due h
    · exact (due h).trans (congrArg _ (State.doSaveAge_eq (left (.saveAge l)) l))
  · intro x t left
    refine ⟨fun h => ?_, fun h => ?_, fun h o ho hs => ?_, fun h hs => ?_⟩
    · exact due h
    · exact (due h).trans (congrArg _ (State.doChangeAge_eq (left (.changeAge r)) r))
    · refine (due h).trans (congrArg (fun a => Host.Outcome.next ((left (.onsetAge r)).setTracker r a)) ?_)
      exact ageOnset_opened hs ho s.epoch
    · refine (due h).trans (congrArg Host.Outcome.next ?_)
      have aged : ageOnset t s.epoch = t := ageOnset_not_opened hs s.epoch
      refine (congrArg ((left (.onsetAge r)).setTracker r) aged).trans ?_
      exact State.setTracker_tracker_self (left (.onsetAge r)) r

end Sys2Proof.Machine
end

section
/-! SUPPORT. How a command on a lane is answered; MIC FRAME, FETCH and LANE STATUS (R22 to R27, R40). -/

namespace Sys2Proof.Machine

/-! ## Answers -/

/-- A command taken whose target is the lane `l` is answered `a`, if its owner answers `a`. -/
theorem takeCommand_onLane {k : Kind} {p : Port} {m : Message} {s : State} {l : LaneId}
    {f : State → LaneId → Reply} (h : s.takes k p m) (hl : m.names l) {a : Reply}
    (ha : f s.beginEvent l = a) :
    takeCommand k p m s (fun u => onLane m u (f u)) =
      .next (a.after.respond p (kindCode k) a.status a.payload) := by
  rw [takeCommand_taken h, onLane_names hl, ha]

/-- The same for a command whose lane must be bound. -/
theorem takeCommand_onBoundLane {k : Kind} {p : Port} {m : Message} {s : State} {l : LaneId}
    {f : State → LaneId → Reply} (h : s.takes k p m) (hl : m.names l)
    (hb : (s.beginEvent.lane l).state ≠ .unbound) {a : Reply} (ha : f s.beginEvent l = a) :
    takeCommand k p m s (fun u => onBoundLane m u (f u)) =
      .next (a.after.respond p (kindCode k) a.status a.payload) := by
  rw [takeCommand_taken h, onBoundLane_names hl, if_neg hb, ha]

/-- A lane that must be bound and is UNBOUND. -/
theorem takeCommand_onUnboundLane {k : Kind} {p : Port} {m : Message} {s : State} {l : LaneId}
    {f : State → LaneId → Reply} (h : s.takes k p m) (hl : m.names l)
    (hu : (s.beginEvent.lane l).state = .unbound) :
    takeCommand k p m s (fun u => onBoundLane m u (f u)) =
      .next (s.beginEvent.respond p (kindCode k) .wrongState []) := by
  rw [takeCommand_taken h, onBoundLane_names hl, if_pos hu]
  rfl

/-! ## MIC FRAME refused (R22) -/

theorem isStale_iff (x : Lane) (e : Epoch) :
    isStale x e = true ↔ ∃ n, x.lastAccepted = some n ∧ isAfter e n = false := by
  rw [isStale]
  split
  · rename_i n hn
    simp [hn]
  · rename_i hnone
    simp [hnone]

/-- A frame in its window: only a full input queue refuses it, where it would be queued (R22). -/
theorem micRefusal_in_window {u : State} {l : LaneId} {e : Epoch} (hu : (u.lane l).state ≠ .unbound)
    (hc : (u.lane l).state ≠ .clearing) (hearly : ahead u.epoch e ≤ 2) (hlate : behind u.epoch e ≤ 8)
    (hnew : ∀ n, (u.lane l).lastAccepted = some n → isAfter e n = true) :
    micRefusal u l e =
      if 4 ≤ (u.lane l).input.length ∧ ((u.lane l).state = .run ∨ (u.lane l).state = .tripped
        ∨ u.passInFlight l = true) then some .full else none := by
  have hfresh : isStale (u.lane l) e = false := by
    refine Bool.eq_false_iff.mpr fun hstale => ?_
    obtain ⟨n, hn, hafter⟩ := (isStale_iff _ _).mp hstale
    simp [hnew n hn] at hafter
  have hdepth : decide (Config.queueDepth ≤ (u.lane l).input.length) =
      decide (4 ≤ (u.lane l).input.length) := rfl
  simp only [micRefusal, if_neg hu, if_neg hc, if_neg (not_lt.mpr hearly), if_neg (not_lt.mpr hlate),
    hfresh, Bool.false_eq_true, if_false, hdepth]
  cases hst : (u.lane l).state with
  | unbound => exact absurd hst hu
  | clearing => exact absurd hst hc
  | bypass | lockout => simp [runsPasses, passesThrough, and_comm]
  | run | tripped => simp [runsPasses, passesThrough]

theorem exec_micFrame_refused {m : Message} {s : State} {l : LaneId} {st : Status}
    (h : s.takes .micFrame .portM m) (hl : m.names l)
    (hst : micRefusal s.beginEvent l (argWord m 0) = some st) :
    exec (.micFrame .portM m) s = .next (s.beginEvent.respond .portM 0x20 st []) :=
  takeCommand_onLane h hl (a := refuse st s.beginEvent) (by simp only [hst])

/-- Settles O20: each clause is the first condition of `micRefusal` that holds. -/
theorem micFrameRefusals : Obligations.MicFrameRefusals := by
  intro m s l h hl u x e answers open' stale
  have refused : ∀ {st}, micRefusal u l e = some st → answers st := exec_micFrame_refused h hl
  have stale_iff : isStale x e = true ↔ stale := isStale_iff x e
  refine ⟨fun hx => ?_, fun hx => ?_, fun ⟨hu, hc⟩ hearly => ?_, fun ⟨hu, hc⟩ hearly hlate => ?_,
    fun ⟨hu, hc⟩ hearly hlate hstale => ?_, fun ⟨hu, hc⟩ hearly hlate hstale hfull hqueued => ?_⟩
  · exact refused (by simp [micRefusal, x, hx])
  · exact refused (by simp [micRefusal, x, hx])
  · exact refused (by simp [micRefusal, x, hu, hc, hearly])
  · exact refused (by simp [micRefusal, x, hu, hc, not_lt.mpr hearly, hlate])
  · have hold := stale_iff.mpr hstale
    exact refused (by simp [micRefusal, x, hu, hc, not_lt.mpr hearly, not_lt.mpr hlate, hold])
  · have hnew : ∀ n, x.lastAccepted = some n → isAfter e n = true := fun n hn =>
      Bool.of_not_eq_false fun hafter => hstale ⟨n, hn, hafter⟩
    exact refused ((micRefusal_in_window hu hc hearly hlate hnew).trans (if_pos ⟨hfull, hqueued⟩))

/-! ## MIC FRAME accepted (R23 to R26) -/

theorem exec_micFrame_accepted {m : Message} {s : State} {l : LaneId}
    (h : s.takes .micFrame .portM m) (hl : m.names l)
    (hnone : micRefusal s.beginEvent l (argWord m 0) = none) {t : State}
    (ht : t = s.beginEvent.acceptMic l { epoch := argWord m 0, samples := argFrame m 1 }) :
    exec (.micFrame .portM m) s =
      .next (t.respond .portM 0x20 .ok (occupancies (t.lane l))) :=
  takeCommand_onLane h hl (a := answer (occupancies (t.lane l)) t) (by simp only [hnone, ht])

/-- A frame that waits joins the tail of the input queue (R24). -/
theorem State.acceptMic_queued {u : State} {l : LaneId} {f : InFrame}
    (hq : (u.lane l).state = .run ∨ (u.lane l).state = .tripped
      ∨ (((u.lane l).state = .bypass ∨ (u.lane l).state = .lockout) ∧ u.passInFlight l = true)) :
    u.acceptMic l f = u.setLane l { countAccepted (u.lane l) f.epoch with
      input := (u.lane l).input ++ [f] } := by
  refine if_neg ?_
  change ¬(passesThrough (u.lane l).state && !u.passInFlight l) = true
  obtain hx | hx | ⟨-, hfly⟩ := hq
  · simp [hx, passesThrough]
  · simp [hx, passesThrough]
  · simp [hfly]

/-- A frame that does not wait is passed through (R25). -/
theorem State.acceptMic_passed {u : State} {l : LaneId} {f : InFrame}
    (hst : (u.lane l).state = .bypass ∨ (u.lane l).state = .lockout)
    (hidle : u.passInFlight l = false) :
    u.acceptMic l f = (u.setLane l (countAccepted (u.lane l) f.epoch)).passFrame l f := by
  refine if_pos ?_
  change (passesThrough (u.lane l).state && !u.passInFlight l) = true
  obtain hx | hx := hst
  · simp [hx, hidle, passesThrough]
  · simp [hx, hidle, passesThrough]

/-- An inserted output frame changes the lane's record and, where the queue was full, raises
OUTPUT_OVERRUN (R26). -/
theorem State.insertOutput_eq (s : State) (l : LaneId) (o : OutFrame) :
    s.insertOutput l o =
      if 4 ≤ (s.lane l).output.length then
        (s.setLane l ((s.insertOutput l o).lane l)).raise .outputOverrun l.val
      else s.setLane l ((s.insertOutput l o).lane l) := by
  rw [State.insertOutput_lane]
  by_cases hfull : 4 ≤ (s.lane l).output.length
  · rw [if_pos hfull, if_pos hfull]
    exact if_pos hfull
  · rw [if_neg hfull, if_neg hfull]
    exact if_neg hfull

@[simp] theorem State.insertOutput_refs (s : State) (l : LaneId) (o : OutFrame) :
    (s.insertOutput l o).refs = s.refs := by rw [State.insertOutput_eq]; split <;> rfl
@[simp] theorem State.insertOutput_realigns (s : State) (l : LaneId) (o : OutFrame) :
    (s.insertOutput l o).realigns = s.realigns := by rw [State.insertOutput_eq]; split <;> rfl
@[simp] theorem State.insertOutput_trackers (s : State) (l : LaneId) (o : OutFrame) :
    (s.insertOutput l o).trackers = s.trackers := by rw [State.insertOutput_eq]; split <;> rfl
@[simp] theorem State.insertOutput_store (s : State) (l : LaneId) (o : OutFrame) :
    (s.insertOutput l o).store = s.store := by rw [State.insertOutput_eq]; split <;> rfl
@[simp] theorem State.insertOutput_checkpoints (s : State) (l : LaneId) (o : OutFrame) :
    (s.insertOutput l o).checkpoints = s.checkpoints := by
  rw [State.insertOutput_eq]; split <;> rfl
@[simp] theorem State.insertOutput_engine (s : State) (l : LaneId) (o : OutFrame) :
    (s.insertOutput l o).engine = s.engine := by rw [State.insertOutput_eq]; split <;> rfl
@[simp] theorem State.insertOutput_realign (s : State) (l : LaneId) (o : OutFrame) (r : RefId) :
    (s.insertOutput l o).realign r = s.realign r := by simp [State.realign]
@[simp] theorem State.insertOutput_tracker (s : State) (l : LaneId) (o : OutFrame) (r : RefId) :
    (s.insertOutput l o).tracker r = s.tracker r := by simp [State.tracker]

theorem State.insertOutput_lane_ne (s : State) {l k : LaneId} (hk : k ≠ l) (o : OutFrame) :
    (s.insertOutput l o).lane k = s.lane k := by
  rw [State.insertOutput_eq]
  split <;> simp [State.lane_setLane, hk]

/-- What passing a frame through may change besides the lane's record: what the trackers that the lane
pilots do with the frame if they are OPEN (R25, R98). -/
theorem realigned_passFrame (s : State) (l : LaneId) (f : InFrame) :
    Realigned (fun r => (s.tracker r).pilot = l ∧ (s.tracker r).state = .opened)
      (fun r => (s.tracker r).pilot = l ∧ (s.tracker r).state = .opened) (fun _ => True)
      (s.insertOutput l (passThrough f)) (s.passFrame l f) := by
  refine Realigned.handToTrackers l f allRefs allRefs_nodup (.refl _) fun r _ hpilot hopen => ?_
  rw [State.insertOutput_tracker] at hpilot hopen
  exact ⟨⟨hpilot, hopen⟩, ⟨hpilot, hopen⟩, trivial⟩

/-- The record that a frame passed through leaves (R25, R26). -/
theorem State.passFrame_lane (s : State) (l : LaneId) (f : InFrame) :
    (s.passFrame l f).lane l = (s.insertOutput l (passThrough f)).lane l :=
  (realigned_passFrame s l f).lane l

theorem State.passFrame_lane_ne (s : State) {l k : LaneId} (hk : k ≠ l) (f : InFrame) :
    (s.passFrame l f).lane k = s.lane k :=
  ((realigned_passFrame s l f).lane k).trans (s.insertOutput_lane_ne hk _)

/-- A frame passed through is inserted, the lane's record given, and then handed to the trackers in
ascending order (R25, log 11). -/
theorem State.passFrame_eq (s : State) (l : LaneId) (f : InFrame) :
    s.passFrame l f = allRefs.foldl (fun v r =>
        if (v.tracker r).pilot = l then v.trackMicrophone r f.epoch f.samples else v)
      (if 4 ≤ (s.lane l).output.length then
        (s.setLane l ((s.passFrame l f).lane l)).raise .outputOverrun l.val
      else s.setLane l ((s.passFrame l f).lane l)) := by
  rw [State.passFrame_lane, ← State.insertOutput_eq, ← State.handToTrackers_eq_foldl]
  rfl

/-- With no tracker OPEN a frame passed through is inserted and nothing else happens (R98). -/
theorem State.passFrame_of_none_opened {s : State} (h : ∀ r, (s.tracker r).state ≠ .opened)
    (l : LaneId) (f : InFrame) : s.passFrame l f = s.insertOutput l (passThrough f) := by
  rw [State.passFrame, State.handToTrackers_of_none_opened l f allRefs]
  simpa using h

/-- A frame in its window for a lane that passes frames through is accepted (R22, R25). -/
theorem exec_micFrame_passed {m : Message} {s : State} {l : LaneId} (h : s.takes .micFrame .portM m)
    (hl : m.names l)
    (hst : (s.beginEvent.lane l).state = .bypass ∨ (s.beginEvent.lane l).state = .lockout)
    (hidle : s.beginEvent.passInFlight l = false) (hearly : ahead s.beginEvent.epoch (argWord m 0) ≤ 2)
    (hlate : behind s.beginEvent.epoch (argWord m 0) ≤ 8)
    (hnew : ∀ n, (s.beginEvent.lane l).lastAccepted = some n → isAfter (argWord m 0) n = true)
    {t : State}
    (ht : t = (s.beginEvent.setLane l (countAccepted (s.beginEvent.lane l) (argWord m 0))).passFrame l
      { epoch := argWord m 0, samples := argFrame m 1 }) :
    exec (.micFrame .portM m) s = .next (t.respond .portM 0x20 .ok (occupancies (t.lane l))) := by
  have hopen : (s.beginEvent.lane l).state ≠ .unbound ∧ (s.beginEvent.lane l).state ≠ .clearing
      ∧ ¬((s.beginEvent.lane l).state = .run ∨ (s.beginEvent.lane l).state = .tripped
        ∨ s.beginEvent.passInFlight l = true) := by
    obtain hx | hx := hst <;> simp [hx, hidle]
  obtain ⟨hu, hc, hpasses⟩ := hopen
  have accepted : micRefusal s.beginEvent l (argWord m 0) = none :=
    (micRefusal_in_window hu hc hearly hlate hnew).trans (if_neg fun hfull => hpasses hfull.2)
  refine exec_micFrame_accepted h hl accepted ?_
  rw [State.acceptMic_passed hst hidle]
  exact ht

/-- Settles O21: an accepted frame is queued, or passed through and handed to the trackers, which act as
`realigned_passFrame` says. -/
theorem micFrameAccepted : Obligations.MicFrameAccepted := by
  refine ⟨fun m s l h hl => ?_, fun m s l h hl => ?_⟩
  · intro u x e f hq hearly hlate hnew hroom
    have hopen : x.state ≠ .unbound ∧ x.state ≠ .clearing := by
      obtain hx | hx | ⟨hx | hx, -⟩ := hq <;> simp [hx]
    obtain ⟨hu, hc⟩ := hopen
    have accepted : micRefusal u l e = none :=
      (micRefusal_in_window hu hc hearly hlate hnew).trans
        (if_neg fun ⟨hfull, _⟩ => absurd hroom (not_lt.mpr hfull))
    refine (exec_micFrame_accepted h hl accepted rfl).trans ?_
    rw [State.acceptMic_queued hq, State.lane_setLane_self]
    simp only [occupancies, List.length_append, List.length_singleton]
    rfl
  · intro u x e out isFull hst hidle hearly hlate hnew
    let f : InFrame := { epoch := e, samples := argFrame m 1 }
    let counted := u.setLane l (countAccepted x e)
    have handed : Realigned (fun r => (u.tracker r).pilot = l ∧ (u.tracker r).state = .opened)
        (fun r => (u.tracker r).pilot = l ∧ (u.tracker r).state = .opened) (fun _ => True)
        (counted.insertOutput l (passThrough f)) (counted.passFrame l f) := by
      simpa [counted] using realigned_passFrame counted l f
    have record : (counted.passFrame l f).lane l = { x with
        lastAccepted := some e
        output := (if isFull then x.output.drop 1 else x.output) ++ [out]
        counters := { x.counters with
          micSkips := BitVec.ofNat 16 (min 65535 (x.counters.micSkips.toNat + skipped x e))
          overruns := if isFull then BitVec.ofNat 16 (min 65535 (x.counters.overruns.toNat + 1))
            else x.counters.overruns } } := by
      rw [State.passFrame_lane, State.insertOutput_lane, State.lane_setLane_self]
      by_cases hfull : isFull
      · rw [if_pos hfull, if_pos hfull]
        exact if_pos hfull
      · rw [if_neg hfull, if_neg hfull]
        exact if_neg hfull
    have words : occupancies ((counted.passFrame l f).lane l) = [BitVec.ofNat 16 x.input.length,
        BitVec.ofNat 16 ((if isFull then x.output.length - 1 else x.output.length) + 1)] := by
      rw [record]
      by_cases hfull : isFull <;> simp [occupancies, hfull, wordOf]
    have taken := exec_micFrame_passed h hl hst hidle hearly hlate hnew rfl
    have full : 4 ≤ (counted.lane l).output.length ↔ isFull := by
      rw [State.lane_setLane_self]
      exact Iff.rfl
    have others : ∀ k, k ≠ l → (counted.passFrame l f).lane k = u.lane k := fun k hk => by
      rw [State.passFrame_lane_ne _ hk]
      simp [counted, State.lane_setLane, hk]
    have closed : (∀ r, (u.tracker r).state ≠ .opened) →
        counted.passFrame l f = counted.insertOutput l (passThrough f) := fun hr =>
      State.passFrame_of_none_opened (by simpa [counted] using hr) l f
    have whole := State.passFrame_eq counted l f
    have epoch : (counted.passFrame l f).epoch = u.epoch :=
      ((Steady.refl counted).passFrame l f).epoch
    generalize counted.passFrame l f = passed at *
    rw [words] at taken
    refine ⟨_, taken, (State.respond_lane ..).trans record, fun k hk => ?_, fun r hr => ⟨?_, ?_⟩,
      fun r hr => ?_, fun hr => ⟨?_, ?_, fun p => ?_⟩, ?_, ?_, ?_, epoch, ?_, ?_⟩
    · exact (State.respond_lane ..).trans (others k hk)
    · rw [State.respond_tracker, handed.tracker r fun hc => hr hc.1, State.insertOutput_tracker]
      exact State.setLane_tracker ..
    · rw [State.respond_realign, handed.realign r fun hc => hr hc.1, State.insertOutput_realign]
      exact State.setLane_realign ..
    · rw [State.respond_tracker, handed.tracker r fun hc => hr hc.2, State.insertOutput_tracker]
      exact State.setLane_tracker ..
    · rw [closed hr, State.respond_realigns, State.insertOutput_realigns]
      rfl
    · rw [closed hr, State.respond_engine, State.insertOutput_engine]
      rfl
    · rw [closed hr, State.respond_notices, State.insertOutput_eq]
      by_cases hfull : isFull
      · rw [if_pos hfull, if_pos (full.mpr hfull)]
        simp [counted]
      · rw [if_neg hfull, if_neg (full.not.mpr hfull)]
        simp [counted]
    · exact handed.refs.trans (State.insertOutput_refs ..)
    · exact handed.store.trans (State.insertOutput_store ..)
    · exact handed.checkpoints.trans (State.insertOutput_checkpoints ..)
    · exact State.respond_decoder ..
    · rw [State.respond_lane]
      refine congrArg (fun v : State => v.respond .portM 0x20 .ok _) (whole.trans ?_)
      simp only [counted, State.setLane_setLane, State.lane_setLane_self]
      rfl

/-! ## FETCH (R27, section 9.8) -/

/-- A word made of a high byte, a half byte, three zero bits and a bit. -/
theorem wordOf_fields {k t g : Nat} (ht : t < 16) (hg : g < 2) :
    (wordOf (k * 256 + t * 16 + g)).extractLsb' 8 8 = BitVec.ofNat 8 k
      ∧ (wordOf (k * 256 + t * 16 + g)).extractLsb' 4 4 = BitVec.ofNat 4 t
      ∧ (wordOf (k * 256 + t * 16 + g)).extractLsb' 1 3 = 0
      ∧ (wordOf (k * 256 + t * 16 + g)).getLsbD 0 = decide (g = 1) := by
  refine ⟨BitVec.eq_of_toNat_eq ?_, BitVec.eq_of_toNat_eq ?_, BitVec.eq_of_toNat_eq ?_, ?_⟩
  · simp [wordOf, Nat.shiftRight_eq_div_pow]
    omega
  · simp [wordOf, Nat.shiftRight_eq_div_pow]
    omega
  · simp [wordOf, Nat.shiftRight_eq_div_pow]
    omega
  · rw [wordOf, BitVec.getLsbD_ofNat, Nat.testBit_zero]
    simp
    omega

/-- The frame descriptor field by field (section 9.8). -/
theorem descriptor_fields (f : OutFrame) :
    (descriptor f).extractLsb' 8 8 = BitVec.ofNat 8 (outKindCode f.kind)
      ∧ (descriptor f).extractLsb' 4 4 = BitVec.ofNat 4 ((f.talk.map talkCode).getD 0).toNat
      ∧ (descriptor f).extractLsb' 1 3 = 0 ∧ (descriptor f).getLsbD 0 = f.gated := by
  have hword : descriptor f = wordOf (outKindCode f.kind * 256
      + ((f.talk.map talkCode).getD 0).toNat * 16 + (if f.gated then 1 else 0)) := by
    cases h : f.talk <;> simp [descriptor, h]
  have htalk : ((f.talk.map talkCode).getD 0).toNat < 16 := by
    rcases f.talk with _ | (_ | _ | _ | _) <;> decide
  have hbit : (if f.gated then 1 else 0) < 2 := by split <;> decide
  obtain ⟨hhigh, hhalf, hzero, hlow⟩ := wordOf_fields (k := outKindCode f.kind) htalk hbit
  rw [hword]
  exact ⟨hhigh, hhalf, hzero, hlow.trans (by cases f.gated <;> rfl)⟩

/-- Settles O22: the branches of the owner, and the descriptor's fields. -/
theorem fetchTakesHead : Obligations.FetchTakesHead := by
  intro m s l h hl u x
  refine ⟨fun hu => ?_, fun hb hempty => ?_, fun f rest hb hout => ⟨descriptor f, ?_, ?_⟩⟩
  · exact takeCommand_onUnboundLane h hl hu
  · exact takeCommand_onBoundLane h hl hb (a := refuse .empty u) (by
      simp only [show (s.beginEvent.lane l).output = [] from hempty]
      rfl)
  · exact takeCommand_onBoundLane h hl hb
      (a := answer (fetchWords f) (u.setLane l { x with output := rest })) (by
        simp only [show (s.beginEvent.lane l).output = f :: rest from hout]
        rfl)
  · obtain ⟨hkind, htalk, hzero, hgated⟩ := descriptor_fields f
    refine ⟨hkind.trans ?_, htalk.trans ?_, hzero, hgated⟩
    · cases f.kind <;> rfl
    · rcases f.talk with _ | (_ | _ | _ | _) <;> rfl

/-! ## LANE STATUS (R40) -/

/-- Settles O28: the words of the two reports, read off the lane's record. -/
theorem laneStatusReports : Obligations.LaneStatusReports := by
  intro p m s l h hl u x present freeze
  refine ⟨fun hb => ?_, fun hu => ?_⟩
  · refine (takeCommand_onLane h hl (a := answer (boundReport x) u) (by rw [if_neg hb])).trans ?_
    have hpresent : ∀ o, optEpoch o = present o := by
      intro o
      cases o <;> rfl
    have hfreeze : freezeWords x.freeze = freeze := by
      cases hx : x.freeze with
      | none => simp only [freeze, hx]; rfl
      | some v =>
        simp only [freeze, hx, freezeWords]
        refine List.map_congr_left fun o _ => ?_
        rcases o with _ | (_ | _ | _ | _ | _ | _ | _ | _) <;> rfl
    have hdelays : delayWords x.delays = x.delays.toList.map fun d => match d with
        | some n => BitVec.ofNat 16 n
        | none => 65535 := List.map_congr_left fun d _ => by cases d <;> rfl
    have hstate : laneStateCode x.state = (match x.state with
        | .unbound => 0 | .clearing => 1 | .bypass => 2 | .run => 3 | .tripped => 4
        | .lockout => 5) := by cases x.state <;> rfl
    have htalk : talkCode x.talk.state = (match x.talk.state with
        | .quiet => 1 | .far => 2 | .near => 3 | .double => 4) := by cases x.talk.state <;> rfl
    rw [answer_payload, boundReport, hpresent, hpresent, hfreeze, hdelays, hstate, htalk]
    rfl
  · exact takeCommand_onLane h hl (a := answer unboundReport u) (by rw [if_pos hu])

end Sys2Proof.Machine
end

section
/-! SUPPORT. Frames passed through one after another, and SET MODE (R25, R26, R29 to R32). -/

namespace Sys2Proof.Machine

/-! ## Frames passed through (R25, R29) -/

/-- From `s` to `t` frames of lane `l` have been passed through: beside the lane's record, the trackers, the
realign records and the notices, only the tail of the Maintenance Queue may have changed. -/
structure PassedThrough (l : LaneId) (s t : State) : Prop where
  lane        : ∀ k, k ≠ l → t.lane k = s.lane k
  refs        : t.refs = s.refs
  store       : t.store = s.store
  checkpoints : t.checkpoints = s.checkpoints
  job         : t.engine.job = s.engine.job
  queue       : ∃ more, t.engine.queue = s.engine.queue ++ more

theorem PassedThrough.refl (l : LaneId) (s : State) : PassedThrough l s s :=
  ⟨fun _ _ => rfl, rfl, rfl, rfl, rfl, [], by simp⟩

theorem PassedThrough.passFrame {l : LaneId} {s t : State} (h : PassedThrough l s t) (f : InFrame) :
    PassedThrough l s (t.passFrame l f) := by
  have passed := realigned_passFrame t l f
  obtain ⟨more, hmore⟩ := h.queue
  obtain ⟨rest, hrest, -⟩ := passed.queue
  refine ⟨fun k hk => (t.passFrame_lane_ne hk f).trans (h.lane k hk),
    passed.refs.trans ((t.insertOutput_refs ..).trans h.refs),
    passed.store.trans ((t.insertOutput_store ..).trans h.store),
    passed.checkpoints.trans ((t.insertOutput_checkpoints ..).trans h.checkpoints), ?_, more ++ rest, ?_⟩
  · rw [passed.job, State.insertOutput_engine, h.job]
  · rw [hrest, State.insertOutput_engine, hmore, List.append_assoc]

theorem PassedThrough.passFrames {l : LaneId} {s : State} (fs : List InFrame) :
    ∀ {t : State}, PassedThrough l s t → PassedThrough l s (t.passFrames l fs) := by
  induction fs with
  | nil => exact fun h => h
  | cons f fs ih =>
    intro t h
    rw [State.passFrames]
    exact ih (h.passFrame f)

/-- What an output queue keeps of the frames put in it (R20). -/
def lastFour (os : List OutFrame) : List OutFrame := os.drop (os.length - 4)

theorem lastFour_append (os rest : List OutFrame) :
    lastFour (lastFour os ++ rest) = lastFour (os ++ rest) := by
  simp only [lastFour]
  rw [← List.drop_append_of_le_length (Nat.sub_le _ _), List.drop_drop]
  congr 1
  simp only [List.length_drop, List.length_append]
  omega

theorem length_lastFour (os : List OutFrame) : (lastFour os).length = min 4 os.length := by
  simp only [lastFour, List.length_drop]
  omega

/-- The record that frames put in the output queue one after another leave (R26). -/
def outputsRecord (x : Lane) (os : List OutFrame) : Lane :=
  { x with
    output := lastFour (x.output ++ os)
    counters := { x.counters with
      overruns := countUp x.counters.overruns ((x.output ++ os).length - 4) } }

theorem outputsRecord_nil {x : Lane} (h : x.output.length ≤ 4) : outputsRecord x [] = x := by
  simp [outputsRecord, lastFour, Nat.sub_eq_zero_of_le h]

theorem outputsRecord_append (x : Lane) (os rest : List OutFrame) :
    outputsRecord (outputsRecord x os) rest = outputsRecord x (os ++ rest) := by
  simp only [outputsRecord, lastFour_append, countUp_countUp, List.append_assoc, Lane.mk.injEq,
    LaneCounters.mk.injEq, true_and, and_true]
  congr 1
  simp only [List.length_append, length_lastFour]
  omega

theorem State.insertOutput_record {s : State} {l : LaneId} (h : (s.lane l).output.length ≤ 4)
    (o : OutFrame) : (s.insertOutput l o).lane l = outputsRecord (s.lane l) [o] := by
  rw [State.insertOutput_lane]
  split
  · have hlen : (s.lane l).output.length = 4 := by omega
    rw [← List.drop_append_of_le_length (by omega)]
    simp [outputsRecord, lastFour, hlen]
  · have hlen : (s.lane l).output.length + 1 - 4 = 0 := by omega
    simp [outputsRecord, lastFour, hlen]

/-- The record that frames passed through leave (R26, R29). -/
theorem State.passFrames_lane (l : LaneId) (fs : List InFrame) :
    ∀ s : State, (s.lane l).output.length ≤ 4 →
      (s.passFrames l fs).lane l = outputsRecord (s.lane l) (fs.map passThrough) := by
  induction fs with
  | nil => exact fun s h => (outputsRecord_nil h).symm
  | cons f fs ih =>
    intro s h
    have hlane : (s.passFrame l f).lane l = outputsRecord (s.lane l) [passThrough f] :=
      (s.passFrame_lane l f).trans (State.insertOutput_record h _)
    have hlen : ((s.passFrame l f).lane l).output.length ≤ 4 := by
      rw [hlane]
      exact (length_lastFour _).trans_le (Nat.min_le_left _ _)
    rw [State.passFrames, ih _ hlen, hlane, outputsRecord_append]
    rfl

/-! ## SET MODE (R30 to R32) -/

section
variable {p : Port} {m : Message} {s : State} {l : LaneId} (h : s.takes .setMode p m) (hl : m.names l)
include h hl

theorem exec_setMode_run (hm : argNat m 0 = 1) {a : Reply} (ha : setModeRun s.beginEvent l = a) :
    exec (.setMode p m) s = .next (a.after.respond p 0x22 a.status a.payload) :=
  takeCommand_onLane h hl (by simp only [flagArg_one hm, ha])

theorem exec_setMode_bypass (hm : argNat m 0 = 0) {a : Reply} (ha : setModeBypass s.beginEvent l = a) :
    exec (.setMode p m) s = .next (a.after.respond p 0x22 a.status a.payload) :=
  takeCommand_onLane h hl (by simp only [flagArg_zero hm, ha])

end

/-- A CLEAR of the lane waits or is in flight (R31). -/
theorem clearOutstanding_iff (s : State) (l : LaneId) :
    (s.waiting l .clear || s.clearInFlight l) = true ↔
      (∃ e ∈ s.engine.queue, e = { kind := .clear, lane := l }) ∨ s.engine.job = some (.clear l) := by
  have hjob : s.clearInFlight l = true ↔ s.engine.job = some (.clear l) := by
    rw [State.clearInFlight]
    split
    · rename_i k hk
      simp [hk]
    · rename_i hne
      simpa using hne l
  simp [State.waiting, hjob]

/-- SET MODE BYPASS takes a RUN, TRIPPED or LOCKOUT lane out of its mode (R32). -/
theorem setModeBypass_enters {u : State} {l : LaneId}
    (hst : (u.lane l).state = .run ∨ (u.lane l).state = .tripped ∨ (u.lane l).state = .lockout) :
    setModeBypass u l = answer [] (u.enterBypass l) := by
  obtain hx | hx | hx := hst <;> simp only [setModeBypass, hx]

theorem State.enterBypass_queued {u : State} {l : LaneId} (h : u.passInFlight l = true) :
    u.enterBypass l = u.setLane l { u.lane l with
      state := .bypass, guard := endRetry (u.lane l).guard } := if_pos h

/-- With no pass in flight the queued frames are passed through (R32). -/
theorem State.enterBypass_flushed {u : State} {l : LaneId} (h : u.passInFlight l = false) :
    u.enterBypass l = (u.setLane l { u.lane l with
      state := .bypass, guard := endRetry (u.lane l).guard, input := [] }).passFrames l
        (u.lane l).input := by
  simp only [State.enterBypass, h, Bool.false_eq_true, if_false, State.flush, State.lane_setLane_self,
    State.setLane_setLane]

/-- Settles O23: the answers by the lane's state, and the flush frame by frame. -/
theorem setModeTable : Obligations.SetModeTable := by
  refine ⟨fun p m s l h hl => ?_, fun p m s l h hl hm => ?_⟩
  · intro u x
    refine ⟨fun hm => ?_, fun hm => ?_⟩
    · exact takeCommand_onLane h hl (a := refuse .badArg u) (by simp only [flagArg_none hm]; rfl)
    · have run : ∀ {a}, setModeRun u l = a → exec (.setMode p m) s =
          .next (a.after.respond p 0x22 a.status a.payload) := exec_setMode_run h hl hm
      cases hx : x.state with
      | run => exact run (a := answer [] u) (by simp only [setModeRun, show (u.lane l).state = _ from hx])
      | bypass =>
        by_cases hclear : (∃ e ∈ u.engine.queue, e = { kind := .clear, lane := l })
            ∨ u.engine.job = some (.clear l)
        · rw [if_pos hclear]
          refine run (a := refuse .busy u) ?_
          simp only [setModeRun, show (u.lane l).state = _ from hx,
            (clearOutstanding_iff u l).mpr hclear, if_true]
        · rw [if_neg hclear]
          refine run (a := answer [] (u.setLane l { x with state := .run, lock := false })) ?_
          simp only [setModeRun, show (u.lane l).state = _ from hx]
          exact if_neg ((clearOutstanding_iff u l).not.mpr hclear)
      | tripped | lockout | unbound =>
        exact run (a := refuse .wrongState u) (by simp only [setModeRun, show (u.lane l).state = _ from hx])
      | clearing =>
        exact run (a := refuse .busy u) (by simp only [setModeRun, show (u.lane l).state = _ from hx])
  · intro u x
    have entered : (x.state = .run ∨ x.state = .tripped ∨ x.state = .lockout) →
        exec (.setMode p m) s = .next ((u.enterBypass l).respond p 0x22 .ok []) := fun hst =>
      exec_setMode_bypass h hl hm (setModeBypass_enters hst)
    have stays : ∀ {a}, setModeBypass u l = a → exec (.setMode p m) s =
        .next (a.after.respond p 0x22 a.status a.payload) := exec_setMode_bypass h hl hm
    refine ⟨fun hx => ?_, fun hx => ?_, fun hx => ?_, fun hst hfly => ?_, ?_, ?_⟩
    · exact stays (a := answer [] u) (by simp only [setModeBypass, show (u.lane l).state = _ from hx])
    · exact stays (a := refuse .busy u) (by simp only [setModeBypass, show (u.lane l).state = _ from hx])
    · exact stays (a := refuse .wrongState u)
        (by simp only [setModeBypass, show (u.lane l).state = _ from hx])
    · rw [entered hst, State.enterBypass_queued hfly]
      rfl
    · intro hst hidle hout all
      let entering := u.setLane l { x with
        state := .bypass, guard := { x.guard with tripCount := 0, retry := none }, input := [] }
      have flushed : u.enterBypass l = entering.passFrames l x.input := State.enterBypass_flushed hidle
      have passed : PassedThrough l entering (entering.passFrames l x.input) :=
        (PassedThrough.refl l entering).passFrames x.input
      have record : (entering.passFrames l x.input).lane l =
          outputsRecord (entering.lane l) (x.input.map passThrough) :=
        State.passFrames_lane l x.input entering (by simpa [entering] using hout)
      rw [State.lane_setLane_self] at record
      have taken := entered hst
      rw [flushed] at taken
      refine ⟨_, taken, (State.respond_lane ..).trans record, fun k hk => ?_, ?_, passed.job, passed.refs,
        passed.store, passed.checkpoints, State.respond_decoder ..⟩
      · rw [State.respond_lane, passed.lane k hk, State.lane_setLane, if_neg hk]
      · exact passed.queue
    · intro hst hidle pass
      have step : ∀ v f, pass v f = v.passFrame l f := fun v f =>
        (State.handToTrackers_eq_foldl l f allRefs (v.insertOutput l (passThrough f))).symm
      rw [entered hst, State.enterBypass_flushed hidle, State.passFrames_eq_foldl,
        show pass = fun v f => v.passFrame l f from funext fun v => funext (step v)]
      rfl

end Sys2Proof.Machine
end

section
/-! SUPPORT. Allocations; BIND and RESIZE (R33, R34, R36, R44, R46). -/

namespace Sys2Proof.Machine

/-! ## What an allocation takes (R44) -/

theorem Store.freeParts_eq (st : Store) :
    st.freeParts = (List.finRange 384).filter fun p : PartId => st.map[p] = .free :=
  List.filter_congr fun p _ => by simp [Bool.beq_eq_decide_eq]

theorem Store.nodup_freeParts (st : Store) : st.freeParts.Nodup :=
  (List.nodup_finRange 384).filter _

theorem length_allocationPlaces (refs : List RefId) (start stop : Nat) :
    (allocationPlaces refs start stop).length = (stop - start) * refs.length := by
  simp [allocationPlaces, Nat.mul_comm]

/-- The places of the reference at index `i` are the `i`-th run of positions (R44). -/
theorem getElem?_allocationPlaces (start stop : Nat) {j : Nat} (hj : j < stop - start) {r : RefId} :
    ∀ (refs : List RefId) (i : Nat), refs[i]? = some r →
      (allocationPlaces refs start stop)[i * (stop - start) + j]? = some (r, start + j) := by
  intro refs
  induction refs with
  | nil => exact fun i h => by simp at h
  | cons q qs ih =>
    intro i h
    have hlen : ((List.range' start (stop - start)).map fun j => (q, j)).length = stop - start := by
      simp
    simp only [allocationPlaces, List.flatMap_cons]
    cases i with
    | zero =>
      obtain rfl : q = r := by simpa using h
      rw [List.getElem?_append_left (by omega)]
      simp [hj]
    | succ i =>
      rw [List.getElem?_append_right (by rw [hlen, Nat.succ_mul]; omega), hlen]
      have hindex : (i + 1) * (stop - start) + j - (stop - start) = i * (stop - start) + j := by
        rw [Nat.succ_mul]
        omega
      rw [hindex]
      exact ih i (by simpa using h)

/-- With too few FREE partitions an allocation is refused (R44). -/
theorem Store.allocate_none {st : Store} {l : LaneId} {refs : List RefId} {start stop : Nat}
    (h : st.freeParts.length < (stop - start) * refs.length) :
    st.allocate l refs start stop = none := by
  refine if_pos ?_
  rwa [length_allocationPlaces]

/-- An allocation takes the lowest-numbered FREE partitions, a run for each reference, and touches only
their map records (R44). -/
theorem Store.allocate_some {st : Store} (l : LaneId) {refs : List RefId} {start stop : Nat}
    (h : (stop - start) * refs.length ≤ st.freeParts.length) :
    ∃ st', st.allocate l refs start stop = some st' ∧ st'.coefs = st.coefs ∧ st'.scrub = st.scrub
      ∧ (∀ (i j : Nat) (r : RefId) (p : PartId), refs[i]? = some r → j < stop - start →
          st.freeParts[i * (stop - start) + j]? = some p → st'.map[p] = .bound l r (start + j))
      ∧ ∀ p : PartId, p ∉ st.freeParts.take ((stop - start) * refs.length) →
          st'.map[p] = st.map[p] := by
  have hlen := length_allocationPlaces refs start stop
  have taken : (st.freeParts.zip (allocationPlaces refs start stop)).map Prod.fst =
      st.freeParts.take ((stop - start) * refs.length) := by
    rw [List.zip_eq_zip_take_min, List.map_fst_zip (by simp), hlen, min_eq_right h]
  obtain ⟨hbound, hothers, hcoefs, hscrub⟩ := Store.bindAll_map l
    (st.freeParts.zip (allocationPlaces refs start stop)) st
    (taken ▸ st.nodup_freeParts.sublist (List.take_sublist _ _))
  refine ⟨_, if_neg ?_, hcoefs, hscrub, fun i j r p hr hj hp => ?_, fun p hp => hothers p (taken ▸ hp)⟩
  · rw [hlen]
    exact not_lt.mpr h
  · refine hbound (p, r, start + j) (List.mem_iff_getElem?.mpr ⟨i * (stop - start) + j, ?_⟩)
    rw [List.getElem?_zip_eq_some]
    exact ⟨hp, getElem?_allocationPlaces start stop hj refs i hr⟩

/-! ## BIND (R33, R34) -/

/-- The references that a set given by its bits names, ascending (R156). -/
theorem refsOf_ofNat (set : Nat) :
    refsOf (BitVec.ofNat 3 set) = [0, 1, 2].filter fun r : RefId => set.testBit r.val :=
  List.filter_congr fun r _ => by
    rw [BitVec.getLsbD_ofNat, decide_eq_true r.isLt, Bool.true_and]

theorem mem_refsOf_ofNat (set : Nat) (r : RefId) :
    r ∈ refsOf (BitVec.ofNat 3 set) ↔ set.testBit r.val = true := by
  rw [refsOf_ofNat, List.mem_filter]
  refine and_iff_right ?_
  fin_cases r <;> decide

theorem refSetArg_none {m : Message} {n : Nat} (h : argNat m n = 0 ∨ 8 ≤ argNat m n) :
    refSetArg m n = none := if_pos h

theorem refSetArg_some {m : Message} {n : Nat} (hlo : 1 ≤ argNat m n) (hhi : argNat m n < 8) :
    refSetArg m n = some (BitVec.ofNat 3 (argNat m n)) := if_neg (by omega)

theorem tailArg_none {m : Message} {n : Nat} (h : argNat m n = 0 ∨ 32 < argNat m n) :
    tailArg m n = none := if_neg (by omega)

theorem tailArg_some {m : Message} {n : Nat} (hlo : 1 ≤ argNat m n) (hhi : argNat m n ≤ 32) :
    tailArg m n = some (argNat m n) := if_pos ⟨hlo, hhi⟩

/-- The record that BIND leaves, the references given by their bits (R34). -/
theorem State.boundLane_ofNat (u : State) (set tail : Nat) :
    u.boundLane (BitVec.ofNat 3 set) tail = { Lane.reset with
      state := .bypass, refs := some (BitVec.ofNat 3 set), tail := some tail
      delays := Vector.ofFn fun r =>
        if set.testBit r.val then some (u.realign r).target else none } := by
  have hdelays : u.targetDelays (BitVec.ofNat 3 set) = Vector.ofFn fun r =>
      if set.testBit r.val then some (u.realign r).target else none := by
    refine congrArg Vector.ofFn (funext fun r => if_congr ?_ rfl rfl)
    rw [List.contains_iff_mem]
    exact mem_refsOf_ofNat set r
  rw [State.boundLane, hdelays]

section
variable {m : Message} {s : State} {l : LaneId} (h : s.takes .bind .portS m) (hl : m.names l)
include h hl

theorem exec_bind_bound (hx : (s.beginEvent.lane l).state ≠ .unbound) :
    exec (.bind .portS m) s = .next (s.beginEvent.respond .portS 0x23 .wrongState []) :=
  takeCommand_onLane h hl (a := refuse .wrongState s.beginEvent) (if_pos hx)

variable (hx : (s.beginEvent.lane l).state = .unbound)
include hx

theorem exec_bind_badSet (hset : argNat m 0 = 0 ∨ 8 ≤ argNat m 0) :
    exec (.bind .portS m) s = .next (s.beginEvent.respond .portS 0x23 .badArg []) :=
  takeCommand_onLane h hl (a := refuse .badArg s.beginEvent)
    (by simp only [hx, ne_eq, not_true, if_false, refSetArg_none hset])

variable (hlo : 1 ≤ argNat m 0) (hhi : argNat m 0 < 8)
include hlo hhi

theorem exec_bind_badTail (htail : argNat m 1 = 0 ∨ 32 < argNat m 1) :
    exec (.bind .portS m) s = .next (s.beginEvent.respond .portS 0x23 .badArg []) :=
  takeCommand_onLane h hl (a := refuse .badArg s.beginEvent)
    (by simp only [hx, ne_eq, not_true, if_false, refSetArg_some hlo hhi, tailArg_none htail])

variable (htlo : 1 ≤ argNat m 1) (hthi : argNat m 1 ≤ 32)
include htlo hthi

theorem exec_bind_noSpace
    (hnone : s.beginEvent.store.allocate l (refsOf (BitVec.ofNat 3 (argNat m 0))) 0 (argNat m 1) =
      none) :
    exec (.bind .portS m) s = .next (s.beginEvent.respond .portS 0x23 .noSpace []) :=
  takeCommand_onLane h hl (a := refuse .noSpace s.beginEvent)
    (by simp only [hx, ne_eq, not_true, if_false, refSetArg_some hlo hhi, tailArg_some htlo hthi, hnone])

theorem exec_bind_accepted {st : Store}
    (hst : s.beginEvent.store.allocate l (refsOf (BitVec.ofNat 3 (argNat m 0))) 0 (argNat m 1) =
      some st) :
    exec (.bind .portS m) s = .next ((({ s.beginEvent with store := st } : State).setLane l
      (s.beginEvent.boundLane (BitVec.ofNat 3 (argNat m 0)) (argNat m 1))).respond .portS 0x23 .ok []) :=
  takeCommand_onLane h hl
    (a := answer [] (({ s.beginEvent with store := st } : State).setLane l
      (s.beginEvent.boundLane (BitVec.ofNat 3 (argNat m 0)) (argNat m 1))))
    (by simp only [hx, ne_eq, not_true, if_false, refSetArg_some hlo hhi, tailArg_some htlo hthi, hst])

end

/-- Settles O24: the owner's refusals in their order, and the allocation of an accepted BIND. -/
theorem bindTable : Obligations.BindTable := by
  refine ⟨fun m s l h hl => ?_, fun m s t l h hl => ?_⟩
  · intro u set t' refs free answers
    have hrefs : refsOf (BitVec.ofNat 3 set) = refs := refsOf_ofNat set
    have hfree : u.store.freeParts = free := u.store.freeParts_eq
    refine ⟨fun hx => exec_bind_bound h hl hx, fun hx hset => exec_bind_badSet h hl hx hset,
      fun hx hlo hhi htail => exec_bind_badTail h hl hx hlo hhi htail,
      fun hx hlo hhi htlo hthi hfew => ?_, fun hx hlo hhi htlo hthi hroom => ?_⟩
    · refine exec_bind_noSpace h hl hx hlo hhi htlo hthi (Store.allocate_none ?_)
      rw [hrefs, hfree]
      exact hfew
    · rw [← hrefs, ← hfree] at hroom
      obtain ⟨st, hst, hcoefs, hscrub, -⟩ := Store.allocate_some l (start := 0) hroom
      refine ⟨_, exec_bind_accepted h hl hx hlo hhi htlo hthi hst, ?_, fun k hk => ?_, rfl, hcoefs, hscrub,
        rfl, rfl, rfl, rfl, rfl, rfl⟩
      · rw [State.respond_lane, State.lane_setLane_self]
        exact u.boundLane_ofNat set t'
      · rw [State.respond_lane, State.lane_setLane, if_neg hk]
        rfl
  · intro u set t' refs free hx hlo hhi htlo hthi hroom ht
    have hrefs : refsOf (BitVec.ofNat 3 set) = refs := refsOf_ofNat set
    have hfree : u.store.freeParts = free := u.store.freeParts_eq
    rw [← hrefs, ← hfree] at hroom
    obtain ⟨st, hst, -, -, hbound, hothers⟩ := Store.allocate_some l (start := 0) hroom
    obtain rfl := Host.Outcome.next.inj ((exec_bind_accepted h hl hx hlo hhi htlo hthi hst).symm.trans ht)
    rw [hrefs, hfree] at hbound
    rw [hrefs, hfree] at hothers
    refine ⟨fun i j r p hr hj hp => ?_, hothers⟩
    exact (hbound i j r p hr hj hp).trans (by rw [Nat.zero_add])

/-! ## RESIZE (R36) -/

theorem jobInFlight_iff (s : State) (l : LaneId) :
    s.jobInFlight l = true ↔ ∃ j, s.engine.job = some j ∧ j.lane = l := by
  rw [State.jobInFlight, Option.any_eq_true]
  simp

section
variable {m : Message} {s : State} {l : LaneId} (h : s.takes .resize .portS m) (hl : m.names l)
include h hl

theorem exec_resize_badArg (htail : argNat m 0 = 0 ∨ 32 < argNat m 0) :
    exec (.resize .portS m) s = .next (s.beginEvent.respond .portS 0x25 .badArg []) :=
  takeCommand_onLane h hl (a := refuse .badArg s.beginEvent) (by simp only [tailArg_none htail])

variable (hlo : 1 ≤ argNat m 0) (hhi : argNat m 0 ≤ 32)
include hlo hhi

theorem exec_resize_wrongState (hx : (s.beginEvent.lane l).state ≠ .bypass) :
    exec (.resize .portS m) s = .next (s.beginEvent.respond .portS 0x25 .wrongState []) :=
  takeCommand_onLane h hl (a := refuse .wrongState s.beginEvent)
    (by simp only [tailArg_some hlo hhi, if_pos hx])

variable (hx : (s.beginEvent.lane l).state = .bypass)
include hx

theorem exec_resize_busy (hbusy : s.beginEvent.jobInFlight l = true) :
    exec (.resize .portS m) s = .next (s.beginEvent.respond .portS 0x25 .busy []) :=
  takeCommand_onLane h hl (a := refuse .busy s.beginEvent)
    (by simp only [tailArg_some hlo hhi, hx, ne_eq, not_true, if_false, hbusy, if_true])

theorem exec_resize (hidle : s.beginEvent.jobInFlight l = false) {a : Reply}
    (ha : resizeReply s.beginEvent l (argNat m 0) = a) :
    exec (.resize .portS m) s = .next (a.after.respond .portS 0x25 a.status a.payload) :=
  takeCommand_onLane h hl
    (by simp only [tailArg_some hlo hhi, hx, ne_eq, not_true, if_false, hidle, Bool.false_eq_true, ha])

end

section
variable {u : State} {l : LaneId} {t' t0 : Nat} (h0 : (u.lane l).tail = some t0)
include h0

theorem tailOf_some : tailOf (u.lane l) = t0 := by rw [tailOf, h0, Option.getD_some]

/-- A tail as long as the lane's (R36). -/
theorem resizeReply_same (h : t' = t0) :
    resizeReply u l t' = answer [] (u.setLane l (resizedLane (u.lane l) t')) :=
  if_pos (h.trans (tailOf_some h0).symm)

/-- A longer tail allocates (R36, R44). -/
theorem resizeReply_longer (h : t0 < t') :
    (u.store.allocate l (boundRefs (u.lane l)) t0 t' = none → resizeReply u l t' = refuse .noSpace u)
      ∧ ∀ st, u.store.allocate l (boundRefs (u.lane l)) t0 t' = some st → resizeReply u l t' =
        answer [] (({ u with store := st } : State).setLane l (resizedLane (u.lane l) t')) := by
  have hne : t' ≠ t0 := by omega
  simp only [resizeReply, tailOf_some h0, if_neg hne, if_pos h]
  refine ⟨fun hnone => by simp only [hnone], fun st hst => by simp only [hst]⟩

/-- A shorter tail releases the partitions past it (R36, R46). -/
theorem resizeReply_shorter (h : t' < t0) : resizeReply u l t' =
    answer [] (({ u with store := u.store.release l t' } : State).setLane l
      (resizedLane (u.lane l) t')) := by
  have hne : t' ≠ t0 := by omega
  simp only [resizeReply, tailOf_some h0, if_neg hne, if_neg (Nat.lt_asymm h)]

end

/-- Settles O26: the owner's refusals in their order, and the three relations of the new tail to the old. -/
theorem resizeTable : Obligations.ResizeTable := by
  intro m s l h hl u x t' free resized answers
  have hfree : u.store.freeParts = free := u.store.freeParts_eq
  refine ⟨fun htail => exec_resize_badArg h hl htail,
    fun hlo hhi hx => exec_resize_wrongState h hl hlo hhi hx,
    fun hlo hhi hx hbusy => exec_resize_busy h hl hlo hhi hx ((jobInFlight_iff u l).mpr hbusy),
    fun hlo hhi hx hidle => ?_⟩
  have resize : ∀ {a}, resizeReply u l t' = a → exec (.resize .portS m) s =
      .next (a.after.respond .portS 0x25 a.status a.payload) := by
    refine exec_resize h hl hlo hhi hx (Bool.eq_false_iff.mpr fun hbusy => ?_)
    obtain ⟨j, hj, hjl⟩ := (jobInFlight_iff u l).mp hbusy
    exact hidle j hj hjl
  have record : ∀ st : Store, (((({ u with store := st } : State).setLane l resized).respond .portS 0x25 .ok
      []).lane l = resized) ∧ ∀ k, k ≠ l → ((({ u with store := st } : State).setLane l
        resized).respond .portS 0x25 .ok []).lane k = u.lane k := by
    refine fun st => ⟨?_, fun k hk => ?_⟩
    · rw [State.respond_lane, State.lane_setLane_self]
    · rw [State.respond_lane, State.lane_setLane, if_neg hk]
      rfl
  refine ⟨fun h0 => resize (resizeReply_same h0 rfl), fun t0 h0 hlonger => ⟨fun hfew => ?_, fun hroom => ?_⟩,
    fun t0 h0 hshorter => ?_⟩
  · rw [← hfree] at hfew
    exact resize ((resizeReply_longer h0 hlonger).1 (Store.allocate_none hfew))
  · rw [← hfree] at hroom
    obtain ⟨st, hst, hcoefs, hscrub, hbound, hothers⟩ := Store.allocate_some l hroom
    rw [hfree] at hbound hothers
    obtain ⟨hlane, hlanes⟩ := record st
    exact ⟨_, resize ((resizeReply_longer h0 hlonger).2 st hst), hlane, hlanes, hcoefs, hscrub, hbound,
      hothers, rfl, rfl⟩
  · obtain ⟨hcoefs, hscrub, hmap⟩ := Store.release_facts u.store l t'
    have taken := resize (resizeReply_shorter h0 hshorter)
    generalize u.store.release l t' = st at *
    obtain ⟨hlane, hlanes⟩ := record st
    exact ⟨_, taken, hlane, hlanes, hcoefs, hscrub, hmap, rfl, rfl⟩

end Sys2Proof.Machine
end

section
/-! SUPPORT. UNBIND and RESET LANE: what each does before the realigns it leaves without a SHIFT end (R35,
R37, R108). -/

namespace Sys2Proof.Machine

/-! ## UNBIND (R35) -/

theorem mem_shiftingRefs (s : State) (l : LaneId) (r : RefId) :
    r ∈ s.shiftingRefs l ↔ s.shiftWaiting l r = true := by
  rw [State.shiftingRefs, List.mem_filter]
  refine and_iff_right ?_
  fin_cases r <;> decide

theorem nodup_shiftingRefs (s : State) (l : LaneId) : (s.shiftingRefs l).Nodup :=
  allRefs_nodup.filter _

/-- A job of the lane runs, or an entry of it other than a SHIFT waits (R35). -/
theorem holdsOffUnbind_iff (s : State) (l : LaneId) :
    s.holdsOffUnbind l = true ↔ (∃ j, s.engine.job = some j ∧ j.lane = l)
      ∨ ∃ e ∈ s.engine.queue, e.lane = l ∧ (e.kind = .save ∨ e.kind = .restore ∨ e.kind = .clear) := by
  have waits : ∀ k, s.waiting l k = true ↔ ∃ e ∈ s.engine.queue, e.lane = l ∧ e.kind = k := by
    intro k
    rw [State.waiting, List.contains_iff_mem]
    refine ⟨fun hmem => ⟨_, hmem, rfl, rfl⟩, ?_⟩
    rintro ⟨e, he, rfl, rfl⟩
    exact he
  simp only [State.holdsOffUnbind, Bool.or_eq_true, jobInFlight_iff, waits, or_assoc]
  refine or_congr_right ?_
  constructor
  · rintro (⟨e, he, hl, hk⟩ | ⟨e, he, hl, hk⟩ | ⟨e, he, hl, hk⟩)
    · exact ⟨e, he, hl, .inl hk⟩
    · exact ⟨e, he, hl, .inr (.inl hk)⟩
    · exact ⟨e, he, hl, .inr (.inr hk)⟩
  · rintro ⟨e, he, hl, hk | hk | hk⟩
    · exact .inl ⟨e, he, hl, hk⟩
    · exact .inr (.inl ⟨e, he, hl, hk⟩)
    · exact .inr (.inr ⟨e, he, hl, hk⟩)

/-- What UNBIND leaves before the realigns end: no entry of the lane waits (R35). -/
def State.unbinding (s : State) (l : LaneId) : State :=
  ({ s.removeEntries (fun e => e.lane == l) with
    store := s.store.release l 0
    checkpoints := freeStack s.checkpoints (s.lane l).guard.stack } : State).setLane l
      (unboundLane (s.lane l))

theorem State.unbindLane_eq {s : State} {l : LaneId} (h : s.holdsOffUnbind l = false) :
    s.unbindLane l = (s.unbinding l).endRealigns (s.shiftingRefs l) := by
  have removed : (s.removeEntries fun e => e.lane == l && e.isShift) =
      s.removeEntries fun e => e.lane == l := by
    have queue : (s.engine.queue.filter fun e => !(e.lane == l && e.isShift)) =
        s.engine.queue.filter fun e => !(e.lane == l) := by
      refine List.filter_congr fun e he => ?_
      obtain ⟨kind, k⟩ := e
      by_cases hk : k = l
      · have hno : ¬(kind = .save ∨ kind = .restore ∨ kind = .clear) := fun hkind =>
          Bool.eq_false_iff.mp h ((holdsOffUnbind_iff s l).mpr (.inr ⟨_, he, hk, hkind⟩))
        cases kind <;> simp_all [MaintEntry.isShift]
      · simp [hk]
    simp only [State.removeEntries, queue]
  simp only [State.unbindLane, removed]
  rfl

/-- The realigns that UNBIND ends change no more than their records, and request SHIFTs of other lanes. -/
theorem realigned_unbindLane (s : State) (l : LaneId) :
    Realigned (fun _ => False) (fun _ => True) (fun _ => True) (s.unbinding l)
      ((s.unbinding l).endRealigns (s.shiftingRefs l)) :=
  Realigned.endRealigns _ (nodup_shiftingRefs s l) (.refl _) (fun _ _ => trivial) fun _ _ _ => trivial

theorem State.unbinding_lane (s : State) (l : LaneId) :
    (s.unbinding l).lane l = unboundLane (s.lane l) := by
  rw [State.unbinding, State.lane_setLane_self]

theorem State.unbinding_lane_ne (s : State) {l k : LaneId} (hk : k ≠ l) :
    (s.unbinding l).lane k = s.lane k := by
  rw [State.unbinding, State.lane_setLane, if_neg hk]
  generalize s.store.release l 0 = st
  rfl

theorem State.unbinding_store (s : State) (l : LaneId) :
    (s.unbinding l).store = s.store.release l 0 := by
  rw [State.unbinding, State.setLane_store]

theorem State.unbinding_checkpoints (s : State) (l : LaneId) : (s.unbinding l).checkpoints =
    freeStack s.checkpoints (s.lane l).guard.stack := by
  rw [State.unbinding, State.setLane_checkpoints]

theorem State.mem_unbinding_queue (s : State) (l : LaneId) (e : MaintEntry) :
    e ∈ (s.unbinding l).engine.queue ↔ e ∈ s.engine.queue ∧ e.lane ≠ l := by
  rw [State.unbinding, State.setLane_engine]
  simp [State.removeEntries]

/-- Settles O25: the owner's two refusals, and the effects of `State.unbinding` with the realigns ended
after them. -/
theorem unbindReleasesLane : Obligations.UnbindReleasesLane := by
  intro m s l h hl u x held
  have held_iff : u.holdsOffUnbind l = true ↔ held := holdsOffUnbind_iff u l
  refine ⟨fun hu => takeCommand_onUnboundLane h hl hu, fun hb hheld => ?_, fun hb hfree => ?_⟩
  · exact takeCommand_onBoundLane h hl hb (a := refuse .busy u) (if_pos (held_iff.mpr hheld))
  · have hgo : u.holdsOffUnbind l = false := Bool.eq_false_iff.mpr (held_iff.not.mpr hfree)
    have taken : exec (.unbind .portS m) s = .next (((u.unbinding l).endRealigns
        (u.shiftingRefs l)).respond .portS 0x24 .ok []) := by
      rw [← State.unbindLane_eq hgo]
      exact takeCommand_onBoundLane h hl hb (a := answer [] (u.unbindLane l))
        (if_neg (held_iff.not.mpr hfree))
    have ended := realigned_unbindLane u l
    have epoch : ((u.unbinding l).endRealigns (u.shiftingRefs l)).epoch = u.epoch :=
      (Steady.endRealigns _ (.refl (u.unbinding l))).epoch
    have fold := State.endRealigns_eq_foldl (u.shiftingRefs l) (u.unbinding l)
    obtain ⟨more, hmore, hshifts⟩ := ended.queue
    obtain ⟨hcoefs, hscrub, hmap⟩ := Store.release_facts u.store l 0
    obtain ⟨hslots, hslotsFree⟩ := CheckpointStore.freeAll_facts
      (x.guard.stack.flatMap fun e => e.slots) u.checkpoints
    generalize (u.unbinding l).endRealigns (u.shiftingRefs l) = t at *
    have hlane : t.lane l = unboundLane x := (ended.lane l).trans (u.unbinding_lane l)
    refine ⟨_, taken, (State.respond_lane ..).trans hlane, fun k hk => ?_, fun p => ?_, ?_, ?_, ?_, fun i => ?_,
      fun e he => ?_, fun e he hne => ?_, ended.refs, ?_, epoch, State.respond_decoder .., ?_⟩
    · rw [State.respond_lane, ended.lane, State.unbinding_lane_ne u hk]
    · rw [State.respond_store, ended.store, State.unbinding_store]
      exact hmap p
    · rw [State.respond_store, ended.store, State.unbinding_store, hcoefs]
    · rw [State.respond_store, ended.store, State.unbinding_store, hscrub]
    · rw [State.respond_checkpoints, ended.checkpoints, State.unbinding_checkpoints]
      exact hslots
    · rw [State.respond_checkpoints, ended.checkpoints, State.unbinding_checkpoints]
      exact (hslotsFree i).trans (or_congr_right List.mem_flatMap)
    · rw [State.respond_engine, hmore, List.mem_append, State.mem_unbinding_queue] at he
      obtain ⟨-, hne⟩ | he := he
      · exact hne
      · rintro rfl
        refine (hshifts e he).1 ?_
        rw [State.unbinding_lane]
        rfl
    · rw [State.respond_engine, hmore, List.mem_append, State.mem_unbinding_queue]
      exact .inl ⟨he, hne⟩
    · exact (State.respond_trackers ..).trans (State.trackers_ext fun r => ended.tracker r id)
    · rw [State.respond_lane, hlane, State.respond_store, ended.store, State.unbinding_store,
        State.respond_checkpoints, ended.checkpoints, State.unbinding_checkpoints, fold, State.unbinding]
      generalize u.store.release l 0 = st
      rfl

/-! ## RESET LANE (R37) -/

/-- The queue of a RESET LANE before the realigns end: the lane's entries but a CLEAR removed, and a CLEAR
of it waiting (R37, R61). -/
def resetQueue (l : LaneId) (q : List MaintEntry) : List MaintEntry :=
  if { kind := .clear, lane := l } ∈ q then q.filter fun e => !resetRemoves l e
  else (q.filter fun e => !resetRemoves l e) ++ [{ kind := .clear, lane := l }]

theorem resetRemoves_eq (l : LaneId) (e : MaintEntry) :
    resetRemoves l e = decide (e.lane = l ∧ e.kind ≠ .clear) := by
  obtain ⟨kind, k⟩ := e
  cases kind <;> simp [resetRemoves, Bool.beq_eq_decide_eq]

theorem mem_resetQueue (l : LaneId) (q : List MaintEntry) (e : MaintEntry) :
    e ∈ resetQueue l q ↔ (e ∈ q ∧ e.lane ≠ l) ∨ e = { kind := .clear, lane := l } := by
  have kept : e ∈ q.filter (fun e => !resetRemoves l e) ↔
      (e ∈ q ∧ e.lane ≠ l) ∨ (e ∈ q ∧ e = { kind := .clear, lane := l }) := by
    obtain ⟨kind, k⟩ := e
    by_cases hk : k = l <;> simp [resetRemoves_eq, hk]
  rw [resetQueue]
  split
  · rename_i hmem
    rw [kept]
    exact or_congr_right ⟨And.right, fun he => ⟨he ▸ hmem, he⟩⟩
  · rw [List.mem_append, kept, List.mem_singleton, or_assoc]
    exact or_congr_right ⟨fun he => he.elim And.right id, .inr⟩

theorem MaintEntry.sameAs_clear (l : LaneId) (e : MaintEntry) :
    ({ kind := .clear, lane := l } : MaintEntry).sameAs e = decide (e = { kind := .clear, lane := l }) := by
  obtain ⟨kind, k⟩ := e
  cases kind <;> simp [MaintEntry.sameAs, Bool.beq_eq_decide_eq, eq_comm]

/-- What RESET LANE leaves before the realigns end (R37). -/
def State.clearing (s : State) (l : LaneId) : State :=
  { s.setLane l (clearingLane (s.lane l) (s.resetDelays l)) with
    engine := { s.engine with queue := resetQueue l s.engine.queue } }

theorem State.clearLane_eq (s : State) (l : LaneId) :
    s.clearLane l = (s.clearing l).endRealigns (s.shiftingRefs l) := by
  have waits : (s.engine.queue.filter fun e => !resetRemoves l e).any
      ({ kind := .clear, lane := l } : MaintEntry).sameAs =
        decide ({ kind := .clear, lane := l } ∈ s.engine.queue) := by
    rw [Bool.eq_iff_iff, List.any_eq_true, decide_eq_true_eq]
    refine ⟨?_, fun hmem => ⟨_, List.mem_filter.mpr ⟨hmem, by simp [resetRemoves]⟩, by
      simp [MaintEntry.sameAs_clear]⟩⟩
    rintro ⟨e, he, hsame⟩
    rw [MaintEntry.sameAs_clear, decide_eq_true_eq] at hsame
    exact hsame ▸ List.mem_of_mem_filter he
  have requested : (((s.removeEntries (resetRemoves l)).setLane l
      (clearingLane (s.lane l) (s.resetDelays l))).request l .clear) = s.clearing l := by
    simp only [State.request, State.lane_setLane_self, State.setLane_engine, State.removeEntries, waits,
      clearingLane, State.clearing, resetQueue]
    by_cases hmem : { kind := .clear, lane := l } ∈ s.engine.queue
    · simp [hmem]
      rfl
    · simp [hmem]
      rfl
  rw [State.clearLane]
  exact congrArg (fun v : State => v.endRealigns (s.shiftingRefs l)) requested

/-- The realigns that RESET LANE ends request SHIFTs only where a proposal was pending (R107, R108). -/
theorem realigned_clearLane (s : State) (l : LaneId) :
    Realigned (fun _ => False) (fun _ => True)
      (fun r => s.shiftWaiting l r = true ∧ (s.realign r).proposal ≠ none) (s.clearing l)
      ((s.clearing l).endRealigns (s.shiftingRefs l)) :=
  Realigned.endRealigns _ (nodup_shiftingRefs s l) (.refl _) (fun _ _ => trivial) fun r hr hp =>
    ⟨(mem_shiftingRefs s l r).mp hr, hp⟩

/-- Settles O27: the effects of `State.clearing`, with the realigns ended after them. -/
theorem resetLaneClearsLane : Obligations.ResetLaneClearsLane := by
  intro m s l h hl u x
  refine ⟨fun hu => takeCommand_onUnboundLane h hl hu, fun hb => ?_⟩
  have taken : exec (.resetLane .portS m) s = .next (((u.clearing l).endRealigns
      (u.shiftingRefs l)).respond .portS 0x26 .queued []) := by
    rw [← State.clearLane_eq]
    exact takeCommand_onBoundLane h hl hb
      (a := { status := .queued, payload := [], after := u.clearLane l }) rfl
  have ended := realigned_clearLane u l
  have epoch : ((u.clearing l).endRealigns (u.shiftingRefs l)).epoch = u.epoch :=
    (Steady.endRealigns _ (.refl (u.clearing l))).epoch
  have fold := State.endRealigns_eq_foldl (u.shiftingRefs l) (u.clearing l)
  have queue : ∃ more, ((u.clearing l).endRealigns (u.shiftingRefs l)).engine.queue =
      resetQueue l u.engine.queue ++ more ∧ ∀ e ∈ more, ∃ r d, e.kind = .shift r d
        ∧ u.shiftWaiting l r = true ∧ (u.realign r).proposal ≠ none := by
    obtain ⟨more, hmore, hshifts⟩ := ended.queue
    exact ⟨more, hmore, fun e he => (hshifts e he).2⟩
  have delays : u.resetDelays l = Vector.ofFn fun r =>
      if u.shiftWaiting l r = true then some (u.realign r).target else x.delays[r] := by
    refine congrArg Vector.ofFn (funext fun r => if_congr ?_ rfl rfl)
    rw [List.contains_iff_mem]
    exact mem_shiftingRefs u l r
  have kept : (u.engine.queue.filter fun e => !resetRemoves l e) =
      u.engine.queue.filter fun e => !decide (e.lane = l ∧ e.kind ≠ .clear) :=
    List.filter_congr fun e _ => by rw [resetRemoves_eq]
  generalize (u.clearing l).endRealigns (u.shiftingRefs l) = t at *
  obtain ⟨more, hmore, hshifts⟩ := queue
  have others : ∀ {e : MaintEntry}, (∀ r d, e.kind ≠ .shift r d) →
      (e ∈ t.engine.queue ↔ (e ∈ u.engine.queue ∧ e.lane ≠ l) ∨ e = { kind := .clear, lane := l }) := by
    intro e he
    rw [hmore, List.mem_append, mem_resetQueue]
    refine or_iff_left fun hin => ?_
    obtain ⟨r, d, hkind, -⟩ := hshifts e hin
    exact he r d hkind
  have hlane : t.lane l = clearingLane x (u.resetDelays l) :=
    (ended.lane l).trans (State.lane_setLane_self ..)
  refine ⟨_, taken, (State.respond_lane ..).trans (hlane.trans (by rw [delays]; rfl)), fun k hk => ?_,
    ?_, ?_, ?_, fun e he hne => ?_, ended.job, ended.store, ended.checkpoints, ended.refs, ?_, epoch,
    State.respond_decoder .., ?_⟩
  · rw [State.respond_lane, ended.lane]
    exact (State.lane_setLane ..).trans (if_neg hk)
  · exact (others (by simp)).mpr (.inr rfl)
  · exact (others (by simp)).not.mpr (by simp)
  · exact (others (by simp)).not.mpr (by simp)
  · rw [State.respond_engine, hmore, List.mem_append, mem_resetQueue]
    exact .inl (.inl ⟨he, hne⟩)
  · exact (State.respond_trackers ..).trans (State.trackers_ext fun r => ended.tracker r id)
  · intro kept' clear first
    have hfirst : resetQueue l u.engine.queue = first := by
      rw [resetQueue, kept]
    refine ⟨⟨more, by rw [State.respond_engine, hmore, hfirst], hshifts⟩, ?_⟩
    rw [State.respond_lane, hlane, fold, State.clearing, hfirst]
    rfl

end Sys2Proof.Machine
end

section
/-! SUPPORT. Every FREE partition holds zeros, the scrubber is on a SCRUB partition (R47, R48), no two
waiting entries are alike and the budget is at most 128 (R60, R77): the operations on the store and on the
engine's record, then the operations on the state. -/

-- One proof at a time: the whole text elaborated at once does not fit the check's memory limit.
set_option Elab.async false

namespace Sys2Proof.Machine

/-! ## The Coefficient Store (R47, R48) -/

/-- Coefficients written in a lane's own partitions touch no FREE one. -/
theorem Store.ok.written {st st' : Store} (h : st.ok) (l : LaneId) (hm : st'.map = st.map)
    (hs : st'.scrub = st.scrub)
    (hc : ∀ q : PartId, (st.map[q]).ownedFrom l 0 = false → st'.coefs[q] = st.coefs[q]) : st'.ok := by
  obtain ⟨hfree, hscrub⟩ := h
  refine ⟨fun p hp => ?_, fun p hp => ?_⟩
  · rw [hm] at hp
    rw [hc p (by rw [hp]; rfl)]
    exact hfree p hp
  · rw [hm]
    exact hscrub p (hs ▸ hp)

theorem Store.ok.partWritten {st : Store} (h : st.ok) (l : LaneId) (r : RefId) (j : Nat)
    (x : Partition) : (st.writePart l r j x).ok :=
  h.written l (by simp) (by simp) fun q hq => Store.writePart_coefs_ne st l r j x q hq

theorem Store.ok.chainWritten {st : Store} (h : st.ok) (l : LaneId) (r : RefId) (j : Nat)
    (xs : List Partition) : (st.writeChain l r j xs).ok :=
  h.written l (by simp) (by simp) fun q hq => Store.writeChain_coefs_ne l r xs st j q hq

theorem Store.ok.tapsWritten (l : LaneId) (r : RefId) (vs : List Int) :
    ∀ {st : Store} (k : Nat), st.ok → (st.writeTaps l r k vs).ok := by
  induction vs with
  | nil => exact fun _ h => h
  | cons v vs ih => exact fun k h => ih (k + 1) (h.partWritten l r _ _)

/-- The scrubber starts on a SCRUB partition (R47). -/
theorem Store.ok.scrubStarted {st : Store} (h : st.ok) : st.startScrub.ok := by
  obtain ⟨hlowest, -⟩ := Store.startScrub_lowest st
  exact ⟨h.1, fun p hp => (hlowest p hp).1⟩

/-- A scrubbed partition is FREE and zero (R48). -/
theorem Store.ok.scrubFinished {st : Store} (h : st.ok) (p : PartId) : (st.finishScrub p).ok := by
  obtain ⟨hfree, -⟩ := h
  refine ⟨fun q hq => ?_, fun q hq => by simp [Store.finishScrub] at hq⟩
  by_cases hpq : p.val = q.val
  · simp [Store.finishScrub, hpq]
  · simp only [Store.finishScrub, Fin.getElem_fin, Vector.getElem_set, hpq, if_false] at hq ⊢
    exact hfree q hq

/-- A release makes partitions SCRUB alone (R46). -/
theorem Store.ok.released {st : Store} (h : st.ok) (l : LaneId) (n : Nat) : (st.release l n).ok := by
  obtain ⟨hfree, hscrub⟩ := h
  obtain ⟨hcoefs, hidle, hmap⟩ := Store.release_facts st l n
  refine ⟨fun p hp => ?_, fun p hp => ?_⟩
  · rw [hcoefs]
    rw [hmap] at hp
    split at hp
    · cases hp
    · exact hfree p hp
  · rw [hmap, hscrub p (hidle ▸ hp), ite_self]

/-- An allocation takes FREE partitions alone (R44). -/
theorem Store.ok.allocated {st st' : Store} (h : st.ok) {l : LaneId} {refs : List RefId}
    {start stop : Nat} (ha : st.allocate l refs start stop = some st') : st'.ok := by
  obtain ⟨hfree, hscrub⟩ := h
  have hroom : (stop - start) * refs.length ≤ st.freeParts.length := by
    by_contra hfew
    simp [Store.allocate_none (l := l) (not_le.mp hfew)] at ha
  obtain ⟨st'', hst, hcoefs, hidle, -, hothers⟩ := Store.allocate_some l (start := start) hroom
  obtain rfl := Option.some.inj (ha.symm.trans hst)
  have taken_free : ∀ p ∈ st.freeParts.take ((stop - start) * refs.length), st.map[p] = .free := by
    intro p hp
    simpa [Store.freeParts_eq] using List.mem_of_mem_take hp
  refine ⟨fun p hp => ?_, fun p hp => ?_⟩
  · rw [hcoefs]
    by_cases htaken : p ∈ st.freeParts.take ((stop - start) * refs.length)
    · exact hfree p (taken_free p htaken)
    · exact hfree p (hothers p htaken ▸ hp)
  · have hbusy := hscrub p (hidle ▸ hp)
    rw [hothers p fun htaken => by simp [taken_free p htaken] at hbusy]
    exact hbusy

/-- With every partition in SCRUB nothing is FREE (R49). -/
theorem Store.ok_of_scrub {st : Store} (h : ∀ p : PartId, st.map[p] = .scrub) : st.ok :=
  ⟨fun p hp => by simp [h p] at hp, fun p _ => h p⟩

/-! ## The engine's record (R60, R77) -/

theorem MaintEntry.sameAs_comm (a b : MaintEntry) : a.sameAs b = b.sameAs a := by
  obtain ⟨k, l⟩ := a
  obtain ⟨k', l'⟩ := b
  cases k <;> cases k' <;> simp [MaintEntry.sameAs, Bool.beq_comm]

/-- Entries may leave the queue, and the budget may be taken from (R60, R77). -/
theorem Engine.ok.fewer {e e' : Engine} (h : e.ok) (hq : e'.queue.Sublist e.queue)
    (hb : e.budget ≤ 128 → e'.budget ≤ 128) : e'.ok := ⟨h.1.sublist hq, hb h.2⟩

/-- An entry that repeats none joins the queue's tail (R61). -/
theorem Engine.ok.joined {e : Engine} (h : e.ok) {a : MaintEntry} (ha : e.queue.any a.sameAs = false) :
    ({ e with queue := e.queue ++ [a] } : Engine).ok := by
  obtain ⟨hdistinct, hbudget⟩ := h
  refine ⟨List.pairwise_append.mpr ⟨hdistinct, List.pairwise_singleton _ _, fun b hb c hc => ?_⟩, hbudget⟩
  rw [List.mem_singleton.mp hc, MaintEntry.sameAs_comm]
  simpa using List.any_eq_false.mp ha b hb

theorem Engine.ok_reset : Engine.reset.ok := by
  simp [Engine.ok, Engine.reset, Config.budget]

/-! ## The operations of the state -/

/-- From `s` to `t` the store stays as R47 and R48 say and the engine's record as R60 and R77 say. -/
structure PoolKept (s t : State) : Prop where
  store  : s.store.ok → t.store.ok
  engine : s.engine.ok → t.engine.ok

theorem PoolKept.refl (s : State) : PoolKept s s := ⟨id, id⟩

theorem PoolKept.trans {s t u : State} (a : PoolKept s t) (b : PoolKept t u) : PoolKept s u :=
  ⟨b.store ∘ a.store, b.engine ∘ a.engine⟩

section
variable {s t u : State}

/-- An operation that leaves the store and the engine's record alone. -/
theorem PoolKept.same (h : PoolKept s t) (hs : u.store = t.store := by rfl)
    (he : u.engine = t.engine := by rfl) : PoolKept s u :=
  ⟨fun hok => hs ▸ h.store hok, fun hok => he ▸ h.engine hok⟩

theorem PoolKept.raiseLane (h : PoolKept s t) (k : NoticeKind) (l : LaneId) :
    PoolKept s (t.raiseLane k l) := h.same

/-- An operation that leaves the engine's record alone. -/
theorem PoolKept.stored (h : PoolKept s t) (hs : t.store.ok → u.store.ok)
    (he : u.engine = t.engine := by rfl) : PoolKept s u :=
  ⟨hs ∘ h.store, fun hok => he ▸ h.engine hok⟩

/-- An operation that leaves the store alone and queues nothing. -/
theorem PoolKept.fewer (h : PoolKept s t) (hq : u.engine.queue.Sublist t.engine.queue)
    (hb : t.engine.budget ≤ 128 → u.engine.budget ≤ 128) (hs : u.store = t.store := by rfl) :
    PoolKept s u :=
  ⟨fun hok => hs ▸ h.store hok, fun hok => (h.engine hok).fewer hq hb⟩

theorem PoolKept.engineIdle (h : PoolKept s t) : PoolKept s t.engineIdle :=
  h.fewer (List.Sublist.refl _) id

theorem PoolKept.countPass (h : PoolKept s t) : PoolKept s t.countPass :=
  h.fewer (List.Sublist.refl _) id

theorem PoolKept.removeEntries (h : PoolKept s t) (f : MaintEntry → Bool) :
    PoolKept s (t.removeEntries f) := h.fewer List.filter_sublist id

/-- A request that repeats a waiting entry is dropped (R61). -/
theorem PoolKept.request (h : PoolKept s t) (l : LaneId) (k : MaintKind) :
    PoolKept s (t.request l k) := by
  simp only [State.request]
  split
  · exact h
  · rename_i hnew
    simp only [Bool.or_eq_true, not_or, Bool.not_eq_true] at hnew
    exact ⟨h.store, fun hok => (h.engine hok).joined hnew.2⟩

theorem PoolKept.writeChains (h : PoolKept s t) (l : LaneId) (cs : Chains) :
    PoolKept s (t.writeChains l cs) :=
  h.stored (fun hok => ((hok.chainWritten l 0 0 _).chainWritten l 1 0 _).chainWritten l 2 0 _)

/-! ### Realign Control and the trackers -/

theorem PoolKept.requestShifts (r : RefId) (d : Nat) (ls : List LaneId) :
    ∀ {t : State}, PoolKept s t → PoolKept s (t.requestShifts r d ls) := by
  induction ls with
  | nil => exact fun h => h
  | cons l ls ih => exact fun h => ih (h.request _ _)

theorem PoolKept.setTarget (h : PoolKept s t) (r : RefId) (d : Nat) :
    PoolKept s (t.setTarget r d).1 := by
  simp only [State.setTarget]
  split
  · exact h.same
  · exact PoolKept.requestShifts r d _ h.same

theorem PoolKept.commitIdle (h : PoolKept s t) (r : RefId) (d : Nat) (o : Origin) :
    PoolKept s (t.commitIdle r d o).1 := by
  simp only [State.commitIdle]
  split
  · exact h
  · split
    · exact h.same
    · exact h.setTarget r d

theorem PoolKept.commit (h : PoolKept s t) (r : RefId) (d : Nat) (o : Origin) :
    PoolKept s (t.commit r d o).1 := by
  simp only [State.commit]
  split
  · exact h.same
  · exact h.commitIdle r d o

theorem PoolKept.endRealignIfDone (h : PoolKept s t) (r : RefId) :
    PoolKept s (t.endRealignIfDone r) := by
  simp only [State.endRealignIfDone, State.endRealign]
  split
  · split
    · exact PoolKept.commitIdle h.same _ _ _
    · exact h.same
  · exact h

theorem PoolKept.endRealigns (rs : List RefId) :
    ∀ {t : State}, PoolKept s t → PoolKept s (t.endRealigns rs) := by
  induction rs with
  | nil => exact fun h => h
  | cons r rs ih => exact fun h => ih (h.endRealignIfDone r)

theorem PoolKept.propose (h : PoolKept s t) (r : RefId) : PoolKept s (t.propose r) := by
  simp only [State.propose]
  split
  · split
    · exact h.commit _ _ _
    · exact h
  · exact h

theorem PoolKept.trackMicrophone (h : PoolKept s t) (r : RefId) (f : Epoch) (x : Frame) :
    PoolKept s (t.trackMicrophone r f x) := by
  simp only [State.trackMicrophone]
  split
  · split
    · exact h
    · split
      · exact PoolKept.propose h.same r
      · exact h.same
      · exact h
  · exact h

theorem PoolKept.handToTrackers (l : LaneId) (f : InFrame) (rs : List RefId) :
    ∀ {t : State}, PoolKept s t → PoolKept s (t.handToTrackers l f rs) := by
  induction rs with
  | nil => exact fun h => h
  | cons r rs ih =>
    intro t h
    simp only [State.handToTrackers]
    apply ih
    split
    · exact h.trackMicrophone r _ _
    · exact h

/-! ### The lanes -/

theorem PoolKept.insertOutput (h : PoolKept s t) (l : LaneId) (f : OutFrame) :
    PoolKept s (t.insertOutput l f) := by
  simp only [State.insertOutput]
  split
  · exact h.same
  · exact h.same

theorem PoolKept.passFrame (h : PoolKept s t) (l : LaneId) (f : InFrame) :
    PoolKept s (t.passFrame l f) := by
  rw [State.passFrame]
  exact PoolKept.handToTrackers l f _ (h.insertOutput l _)

theorem PoolKept.passFrames (l : LaneId) (fs : List InFrame) :
    ∀ {t : State}, PoolKept s t → PoolKept s (t.passFrames l fs) := by
  induction fs with
  | nil => exact fun h => h
  | cons f fs ih =>
    intro t h
    rw [State.passFrames]
    exact ih (h.passFrame l f)

theorem PoolKept.flush (h : PoolKept s t) (l : LaneId) : PoolKept s (t.flush l) := by
  rw [State.flush]
  exact PoolKept.passFrames l _ h.same

theorem PoolKept.acceptMic (h : PoolKept s t) (l : LaneId) (f : InFrame) :
    PoolKept s (t.acceptMic l f) := by
  simp only [State.acceptMic]
  split
  · exact PoolKept.passFrame h.same l f
  · exact h.same

theorem PoolKept.enterBypass (h : PoolKept s t) (l : LaneId) : PoolKept s (t.enterBypass l) := by
  simp only [State.enterBypass]
  split
  · exact h.same
  · exact PoolKept.flush h.same l

theorem PoolKept.clearLane (h : PoolKept s t) (l : LaneId) : PoolKept s (t.clearLane l) := by
  have removed := h.removeEntries (resetRemoves l)
  exact PoolKept.endRealigns _ (PoolKept.request removed.same l .clear)

theorem PoolKept.unbindLane (h : PoolKept s t) (l : LaneId) : PoolKept s (t.unbindLane l) := by
  simp only [State.unbindLane]
  have removed := h.removeEntries fun e => e.lane == l && e.isShift
  exact PoolKept.endRealigns _ (removed.stored (fun hok => hok.released l 0) rfl)

/-! ### What an advance brings about, and how an event begins -/

/-- The budget is refilled to 128 (R77). -/
theorem PoolKept.advance (h : PoolKept s t) : PoolKept s t.advance :=
  h.fewer (List.Sublist.refl _) fun _ => le_refl _

/-- A resolution touches the references, the trackers and the notices alone (R12, R13). -/
theorem State.resolve_pool (s : State) (r : RefId) :
    (s.resolve r).store = s.store ∧ (s.resolve r).engine = s.engine := by
  have gap : ∀ (v : State) p, (v.gap r p).store = v.store ∧ (v.gap r p).engine = v.engine := by
    intro v p
    simp only [State.gap]
    split <;> exact ⟨rfl, rfl⟩
  have resolved : ∀ n (v : State) p, (v.resolveFrom r n p).store = v.store
      ∧ (v.resolveFrom r n p).engine = v.engine := by
    intro n
    induction n with
    | zero => exact fun _ _ => ⟨rfl, rfl⟩
    | succ n ih =>
      intro v p
      rw [State.resolveFrom, (ih _ _).1, (ih _ _).2, State.resolveOne]
      split
      · exact ⟨rfl, rfl⟩
      · exact gap v p
  simp only [State.resolve]
  split
  · exact ⟨rfl, rfl⟩
  · exact ⟨rfl, rfl⟩
  · split
    · exact ⟨rfl, rfl⟩
    · exact resolved _ _ _

/-- No action of an advance touches the store or the engine's record. -/
theorem PoolKept.act (h : PoolKept s t) (a : EpochAction) : PoolKept s (t.act a) := by
  cases a with
  | onsetAge r | holdEnd r => exact h.same
  | retryEnd l => exact h.same
  | resolve r => exact h.same (t.resolve_pool r).1 (t.resolve_pool r).2
  | changeAge r =>
    simp only [State.act, State.doChangeAge]
    split
    · split
      · exact h.same
      · exact h
    · exact h
  | expire l =>
    simp only [State.act, State.doExpire]
    split
    · exact h
    · exact h.same
  | acceptedAge l =>
    simp only [State.act, State.doAcceptedAge]
    split
    · split
      · exact h.same
      · exact h
    · exact h
  | saveAge l =>
    simp only [State.act, State.doSaveAge]
    split
    · split
      · exact h.same
      · exact h
    · exact h

theorem PoolKept.actAll (as : List EpochAction) :
    ∀ {t : State}, PoolKept s t → PoolKept s (t.actAll as) := by
  induction as with
  | nil => exact fun h => h
  | cons a as ih => exact fun h => ih (h.act a)

theorem PoolKept.takeAction (h : PoolKept s t) (a : EpochAction) : PoolKept s (t.takeAction a) := by
  simp only [State.takeAction]
  split
  · exact PoolKept.act h.same a
  · exact h

/-- A pass takes its grant from the budget (R78). -/
theorem PoolKept.startOldestPass (h : PoolKept s t) : PoolKept s t.startOldestPass := by
  simp only [State.startOldestPass]
  split
  · exact h
  · simp only [State.startPass]
    split
    · exact h
    · exact PoolKept.handToTrackers _ _ _
        (h.fewer (List.Sublist.refl _) fun hb => (Nat.sub_le _ _).trans hb)

/-- The oldest entry leaves the queue (R64). -/
theorem PoolKept.startMaintenance (h : PoolKept s t) : PoolKept s t.startMaintenance := by
  simp only [State.startMaintenance]
  split
  · exact h
  · rename_i e rest hqueue
    exact h.fewer (hqueue ▸ List.sublist_cons_self e rest) id

theorem PoolKept.arbitrate (h : PoolKept s t) : PoolKept s t.arbitrate := by
  simp only [State.arbitrate]
  split
  · exact h
  · split
    · exact h.startOldestPass
    · exact h.startMaintenance

theorem PoolKept.startScrubber (h : PoolKept s t) : PoolKept s t.startScrubber :=
  h.stored Store.ok.scrubStarted

theorem PoolKept.settleScrubber (h : PoolKept s t) : PoolKept s t.settleScrubber := by
  rw [State.settleScrubber]
  split
  · exact h
  · exact h.startScrubber

theorem PoolKept.beginStart (h : PoolKept s t) : PoolKept s t.beginStart := by
  have acted : PoolKept s t.settleEpoch := PoolKept.actAll t.due h.same
  exact acted.same

theorem PoolKept.beginScrub (h : PoolKept s t) : PoolKept s t.beginScrub :=
  h.beginStart.arbitrate.same

theorem PoolKept.beginEvent (h : PoolKept s t) : PoolKept s t.beginEvent :=
  h.beginScrub.settleScrubber

/-! ### The completions -/

theorem PoolKept.landUpdates (l : LaneId) (fz : Vector (Option Freeze) 3) (us : List Update) :
    ∀ {t : State}, PoolKept s t → PoolKept s (t.landUpdates l fz us) := by
  induction us with
  | nil => exact fun h => h
  | cons u us ih =>
    intro t h
    simp only [State.landUpdates]
    apply ih
    split
    · exact h.stored (fun hok => hok.partWritten l _ _ _)
    · exact h

theorem PoolKept.testLatch (h : PoolKept s t) (l : LaneId) (m : Meter) (n : Nat) :
    PoolKept s (t.testLatch l m n) := by
  simp only [State.testLatch]
  split
  · split
    · exact h.same
    · exact h
  · split
    · exact h.same
    · exact h

theorem PoolKept.autoSave (h : PoolKept s t) (l : LaneId) (g : Guard) (n : Nat) :
    PoolKept s (t.autoSave l g n) := by
  simp only [State.autoSave]
  split
  · exact h.request _ _
  · exact h

theorem PoolKept.meterStep (h : PoolKept s t) (l : LaneId) (start : Lane) (b : Bool)
    (k : TalkState) (em eo : Nat) : PoolKept s (t.meterStep l start b k em eo) := by
  simp only [State.meterStep, State.meterWindow]
  split
  · split
    · split
      · exact (PoolKept.testLatch h.same l _ _).autoSave l _ _
      · exact h.same
    · exact h.same
  · exact h.same

theorem PoolKept.trip (h : PoolKept s t) (l : LaneId) (g : Guard) : PoolKept s (t.trip l g) := by
  have dropped : PoolKept s (t.dropSave l) := h.removeEntries _
  simp only [State.trip]
  split
  · exact PoolKept.raiseLane (PoolKept.request dropped.same l .restore) _ _
  · exact PoolKept.raiseLane (PoolKept.request dropped.same l .clear) _ _

theorem PoolKept.guardStep (h : PoolKept s t) (l : LaneId) (g : Guard) (v : Verdict) :
    PoolKept s (t.guardStep l g v) := by
  simp only [State.guardStep, State.setDivergence]
  split
  · split
    · exact h
    · exact h.same
    · exact h.same
    · exact h.trip l g
  · exact h

theorem PoolKept.outputStep (h : PoolKept s t) (l : LaneId) (f : OutFrame) :
    PoolKept s (t.outputStep l f) := by
  have inserted : PoolKept s
      ((t.setLane l { t.lane l with inFlight := none }).insertOutput l f) :=
    PoolKept.insertOutput h.same l f
  simp only [State.outputStep]
  split
  · exact inserted.flush l
  · exact inserted

theorem PoolKept.landResults (h : PoolKept s t) (i : PassInputs) (res : PassResults) :
    PoolKept s (t.landResults i res) := by
  have landed : PoolKept s (t.landUpdates i.lane res.freeze res.updates) :=
    PoolKept.landUpdates _ _ _ h
  have talked : PoolKept s ((t.landUpdates i.lane res.freeze res.updates).talkStep i.lane res) :=
    landed.same
  have judged := (talked.meterStep i.lane i.record i.wasRun res.talk res.micEnergy
    res.outEnergy).guardStep i.lane i.record.guard res.verdict
  exact PoolKept.outputStep (judged.same) i.lane res.output

theorem PoolKept.completePass (h : PoolKept s t) (i : PassInputs) (g : Nat) :
    PoolKept s (t.completePass i g) := by
  simp only [State.completePass]
  refine PoolKept.engineIdle (PoolKept.countPass ?_)
  split
  · exact h.same
  · exact h.landResults i _

theorem PoolKept.completeSave (h : PoolKept s t) (l : LaneId) (x : Lane) (c : Chains)
    (e : Epoch) : PoolKept s (t.completeSave l x c e) := by
  simp only [State.completeSave]
  refine PoolKept.engineIdle ?_
  split
  · split
    · exact h.same
    · exact h.same
  · split
    · exact h.same
    · exact h.same

theorem PoolKept.completeRestore (h : PoolKept s t) (l : LaneId) (x : Lane) (c : Chains) :
    PoolKept s (t.completeRestore l x c) := by
  have written := h.writeChains l (restoredChains x c)
  simp only [State.completeRestore]
  refine PoolKept.engineIdle ?_
  split
  · exact written.same
  · exact written

theorem PoolKept.completeClear (h : PoolKept s t) (l : LaneId) : PoolKept s (t.completeClear l) := by
  have written := h.writeChains l (zeroChains (t.lane l))
  simp only [State.completeClear]
  refine PoolKept.engineIdle ?_
  split
  · exact written.same
  · exact written

theorem PoolKept.completeShift (h : PoolKept s t) (l : LaneId) (r : RefId) (d : Int)
    (old : List Partition) : PoolKept s (t.completeShift l r d old) := by
  have landed : PoolKept s { t with store := t.store.writeChain l r 0 (shiftChain old d) } :=
    h.stored (fun hok => hok.chainWritten l r 0 _)
  have moved : PoolKept s ({ t with store := t.store.writeChain l r 0 (shiftChain old d) }.setLane l
      { t.lane l with delays := (t.lane l).delays.set r (some (t.realign r).target) }) :=
    landed.same
  exact moved.engineIdle.endRealignIfDone r

/-- SCRUB_COMPLETE, taken (R48). -/
theorem PoolKept.completeScrub (h : PoolKept s t) (p : PartId) :
    PoolKept s { t with store := (t.store.finishScrub p).startScrub } :=
  h.stored (fun hok => (hok.scrubFinished p).scrubStarted)

/-- A reset leaves no partition FREE, no entry waiting and the budget full (R49, R58). -/
theorem PoolKept.of_reset (hm : t.store.map = Store.reset.map) (he : t.engine = Engine.reset) :
    PoolKept s t := by
  refine ⟨fun _ => Store.ok_of_scrub fun p => ?_, fun _ => ?_⟩
  · rw [hm]
    exact Store.reset_map p
  · rw [he]
    exact Engine.ok_reset

end

end Sys2Proof.Machine
end

section
/-! SUPPORT. Every step keeps the Coefficient Store and the engine's record: the owners' answers, then every
row of the table. -/

-- One proof at a time: the whole text elaborated at once does not fit the check's memory limit.
set_option Elab.async false

namespace Sys2Proof.Machine

/-! ## The owners' answers -/

/-- A command keeps the store and the engine's record if its owner's effect does. -/
theorem PoolKept.command {k : Kind} {p : Port} {m : Message} {s t : State} {owner : State → Reply}
    (h : takeCommand k p m s owner = .next t) (ho : ∀ u, PoolKept u (owner u).after) :
    PoolKept s t :=
  takeCommand_after h (.refl s) (PoolKept.refl s).beginEvent
    ((PoolKept.refl s).beginEvent.trans (ho _)) fun _ _ _ _ hu => hu.same

/-- An event whose next state is `u`. -/
theorem PoolKept.event {s t u : State}
    (h : (Host.Outcome.next u : Host.Outcome State Fault Refusal) = .next t) (hu : PoolKept s u) :
    PoolKept s t := by
  cases h
  exact hu

section
variable (u : State)

theorem poolKept_declareReply (r : RefId) :
    PoolKept u (u.declareActive r) ∧ PoolKept u (declareInactive u r).after := by
  rw [State.declareActive, declareInactive]
  refine ⟨?_, ?_⟩
  · split
    · exact (PoolKept.refl u).same
    · exact .refl u
  · split
    · exact .refl u
    split
    · exact .refl u
    · exact (PoolKept.refl u).same

/-- A REF FRAME writes the references, the trackers and the notices alone (R10, R11). -/
theorem poolKept_frameReply (r : RefId) (e : Epoch) (f : Frame) :
    PoolKept u (frameReply u r e f).after := by
  have counted : ∀ x, PoolKept u (u.setRef r x) := fun _ => (PoolKept.refl u).same
  simp only [frameReply]
  split
  · exact .refl u
  split
  · exact counted _
  split
  · exact counted _
  split
  · exact counted _
  split
  · exact .refl u
  · obtain ⟨-, hstore, -, hengine, -⟩ := State.acceptReference_frame u r e f
    exact (PoolKept.refl u).same hstore hengine

theorem poolKept_saveReply (l : LaneId) : PoolKept u (saveReply u l).after := by
  have queued := (PoolKept.refl u).request l .save
  rw [saveReply]
  split
  · exact .refl u
  · exact .refl u
  · exact .refl u
  · exact queued
  · exact queued
  · exact queued

theorem poolKept_setModeRun (l : LaneId) : PoolKept u (setModeRun u l).after := by
  simp only [setModeRun]
  split
  · exact .refl u
  · split
    · exact .refl u
    · exact (PoolKept.refl u).same
  · exact .refl u
  · exact .refl u
  · exact .refl u
  · exact .refl u

theorem poolKept_setModeBypass (l : LaneId) : PoolKept u (setModeBypass u l).after := by
  have entered := (PoolKept.refl u).enterBypass l
  rw [setModeBypass]
  split
  · exact .refl u
  · exact entered
  · exact entered
  · exact entered
  · exact .refl u
  · exact .refl u

/-- RESIZE allocates or releases (R36). -/
theorem poolKept_resizeReply (l : LaneId) (tail : Nat) :
    PoolKept u (resizeReply u l tail).after := by
  simp only [resizeReply]
  split
  · exact (PoolKept.refl u).same
  split
  · split
    · exact .refl u
    · rename_i st halloc
      exact (PoolKept.refl u).stored fun hok => hok.allocated halloc
  · exact (PoolKept.refl u).stored fun hok => hok.released l tail

/-- COEFF WRITE writes taps of the lane's own chain (R55). -/
theorem poolKept_writeReply (m : Message) (l : LaneId) (r : RefId) (start trueLength : Nat) :
    PoolKept u (writeReply u m l r start trueLength).after := by
  simp only [writeReply]
  split
  · exact .refl u
  · exact (PoolKept.refl u).stored (Store.ok.tapsWritten l r _ start)

end

/-! ## Every row of the table -/

/-- Every row keeps the store and the engine's record. The store is written by the allocations, the
releases, COEFF WRITE, the completions, the scrubber and the resets; the queue and the budget by the
requests, the removals, the starts, the advance and the resets. -/
theorem exec_poolKept {c : Instr} {s t : State} (h : exec c s = .next t) : PoolKept s t := by
  have begun := (PoolKept.refl s).beginEvent
  cases c with
  | powerOn | resetNAssert => exact .event h (.of_reset rfl rfl)
  | deviceReset p m =>
    exact .command h fun u => onZero_after (.refl u) (.of_reset rfl rfl)
  | resetNRelease =>
    refine .event h ?_
    split
    · exact begun.stored Store.ok.scrubStarted
    · exact begun.same
  | epochAdvance =>
    refine .event h ?_
    split
    · exact begun
    · exact begun.advance
  | epochResolution r =>
    refine .event h ?_
    split
    · exact ((PoolKept.refl s).takeAction _).takeAction _
    · exact .refl s
  | frameExpiry _ | lastAcceptedEpochAgeOut _ | retryCountdownEnd _ | holdCountdownEnd _
  | lastChangeAgeOut _ | onsetRecordAgeOut _ | lastSaveEpochAgeOut _ =>
    exact .event h ((PoolKept.refl s).takeAction _)
  | transactionTruncated _ | responseCut _ | responseSent _ | transactionEnd _ =>
    refine .event h ?_
    split
    · exact begun.same
    · exact begun
  | transactionStart c =>
    simp only [exec, execTransactionStart] at h
    split at h
    · cases h
    · refine .event h ?_
      split
      · exact begun
      · exact begun.same
  | unknownKind p code m =>
    simp only [exec, execUnknownKind] at h
    split at h
    · cases h
    split at h
    · exact .event h (.refl s)
    · exact .event h begun.same
  | passStart =>
    have started := (PoolKept.refl s).beginStart
    refine .event h ?_
    split
    · exact started
    · exact started.startOldestPass
  | maintenanceStart =>
    have started := (PoolKept.refl s).beginStart
    refine .event h ?_
    split
    · exact started
    · exact started.startMaintenance
  | passComplete =>
    refine .event h ?_
    split
    · exact begun.completePass _ _
    · exact begun
  | saveComplete =>
    refine .event h ?_
    split
    · exact begun.completeSave _ _ _ _
    · exact begun
  | restoreComplete =>
    refine .event h ?_
    split
    · exact begun.completeRestore _ _ _
    · exact begun
  | clearComplete =>
    refine .event h ?_
    split
    · exact begun.completeClear _
    · exact begun
  | shiftComplete =>
    refine .event h ?_
    split
    · exact begun.completeShift _ _ _ _
    · exact begun
  | scrubStart => exact .event h (PoolKept.refl s).beginScrub.settleScrubber
  | scrubComplete =>
    refine .event h ?_
    split
    · split
      · exact begun
      · exact begun.completeScrub _
    · exact begun
  | declareRef p m =>
    refine .command h fun u => onRef_after (.refl u) fun r => ?_
    split
    · exact .refl u
    split
    · exact .refl u
    · exact (poolKept_declareReply u r).1
    · exact (poolKept_declareReply u r).2
  | refFrame p m =>
    refine .command h fun u => onRef_after (.refl u) fun r => ?_
    split
    · exact .refl u
    · exact poolKept_frameReply u r _ _
  | refConfig p m | trackerConfig p m | historyRead p m =>
    refine .command h fun u => onRef_after (.refl u) fun r => ?_
    split
    · exact (PoolKept.refl u).same
    · exact (PoolKept.refl u).same
  | refStatus p m | trackerStatus p m | trackerClear p m =>
    exact .command h fun u => onRef_after (.refl u) fun r => (PoolKept.refl u).same
  | setDelay p m =>
    exact .command h fun u => onRef_after (.refl u) fun r => (PoolKept.refl u).commit r _ _
  | nop p m | engineStatus p m | noticeRead p m | noticeArm p m =>
    exact .command h fun u => onZero_after (.refl u) (PoolKept.refl u).same
  | noticeConfig p m =>
    refine .command h fun u => onZero_after (.refl u) ?_
    split
    · exact .refl u
    split
    · exact .refl u
    · exact (PoolKept.refl u).same
  | micFrame p m =>
    refine .command h fun u => onLane_after (.refl u) fun l => ?_
    split
    · exact .refl u
    · exact (PoolKept.refl u).acceptMic l _
  | fetch p m | dropCheckpoints p m =>
    refine .command h fun u => onBoundLane_after (.refl u) fun l => ?_
    split
    · exact .refl u
    · exact (PoolKept.refl u).same
  | setMode p m =>
    refine .command h fun u => onLane_after (.refl u) fun l => ?_
    split
    · exact .refl u
    · exact poolKept_setModeRun u l
    · exact poolKept_setModeBypass u l
  | bind p m =>
    refine .command h fun u => onLane_after (.refl u) fun l => ?_
    split
    · exact .refl u
    split
    · split
      · exact .refl u
      · rename_i st halloc
        exact (PoolKept.refl u).stored fun hok => hok.allocated halloc
    · exact .refl u
  | unbind p m =>
    refine .command h fun u => onBoundLane_after (.refl u) fun l => ?_
    split
    · exact .refl u
    · exact (PoolKept.refl u).unbindLane l
  | resize p m =>
    refine .command h fun u => onLane_after (.refl u) fun l => ?_
    split
    · exact .refl u
    split
    · exact .refl u
    split
    · exact .refl u
    · exact poolKept_resizeReply u l _
  | resetLane p m =>
    exact .command h fun u => onBoundLane_after (.refl u) fun l => (PoolKept.refl u).clearLane l
  | laneStatus p m | storeStatus p m | guardStatus p m =>
    exact .command h fun u => onLane_after (.refl u) fun l => .refl u
  | talkStatus p m | meterRead p m | laneConfig p m | talkConfig p m | meterConfig p m =>
    exact .command h fun u => onBoundLane_after (.refl u) fun l => (PoolKept.refl u).same
  | coeffRead p m =>
    refine .command h fun u => onLane_after (.refl u) fun l => ?_
    split
    · exact .refl u
    split
    · exact .refl u
    split
    · exact .refl u
    · rw [readReply_after]
      exact .refl u
  | coeffWrite p m =>
    refine .command h fun u => onLane_after (.refl u) fun l => ?_
    split
    · exact .refl u
    split
    · exact .refl u
    split
    · exact .refl u
    split
    · exact .refl u
    split
    · exact .refl u
    split
    · exact .refl u
    · exact poolKept_writeReply u m l _ _ _
  | rearm p m | guardConfig p m =>
    refine .command h fun u => onLane_after (.refl u) fun l => ?_
    split
    · exact .refl u
    split
    · exact .refl u
    · exact (PoolKept.refl u).same
  | saveCheckpoint p m =>
    exact .command h fun u => onLane_after (.refl u) fun l => poolKept_saveReply u l

/-- A step keeps the store and the engine's record, the part idle or not. -/
theorem step_poolKept {s t : State} (h : step s = .next t) : PoolKept s t := by
  rw [step] at h
  split at h
  · exact .event h (.refl s)
  · rename_i rest _
    have dequeued : PoolKept s { s with pending := rest } := (PoolKept.refl s).same
    exact dequeued.trans (exec_poolKept h)

/-- Settles O58: each operation on the store keeps the FREE partitions zero and the scrubber on a SCRUB
partition, each operation on the engine's record keeps the queue free of repeats and the budget in bounds,
and no row touches either by any other operation. -/
theorem storeAndEngineInvariantKept : Obligations.StoreAndEngineInvariantKept :=
  ⟨fun _ _ hs h => (step_poolKept h).store hs, fun _ _ hs h => (step_poolKept h).engine hs⟩

end Sys2Proof.Machine
end

section
/-! SUPPORT. The coefficient transfers: the arguments they share (R52 to R55), COEFF READ and COEFF WRITE. -/

-- One proof at a time: the whole text elaborated at once does not fit the check's memory limit.
set_option Elab.async false

namespace Sys2Proof.Machine

/-! ## The arguments of a transfer (R52, R54) -/

theorem transferArgs_none {m : Message} (h : 3 ≤ argNat m 0 ∨ 8192 < argNat m 2) :
    transferArgs m = none := by
  rw [transferArgs]
  split
  · rfl
  · rename_i hshort
    rw [refArg_none (h.resolve_right hshort)]
    rfl

theorem transferArgs_some {m : Message} {r : RefId} (hr : argNat m 0 = r.val)
    (hn : argNat m 2 ≤ 8192) : transferArgs m = some (r, argNat m 2) := by
  have hmax : ¬Config.maxTaps < argNat m 2 := not_lt.mpr hn
  rw [transferArgs, if_neg hmax, refArg_val hr]
  rfl

theorem tailOf_of_some {x : Lane} {t0 : Nat} (h : x.tail = some t0) : tailOf x = t0 := by
  simp [tailOf, h]

/-- A transfer moves what is asked for, 128 taps or what the chain holds, whichever is least. -/
theorem movedTaps_eq (n start taps : Nat) :
    movedTaps n start taps = min n (min 128 (taps - start)) := rfl

/-! ## COEFF READ (R52, R53) -/

theorem getElem?_flatMap_pair {α β : Type} (f g : α → β) (xs : List α) :
    ∀ (i : Nat) (x : α), xs[i]? = some x →
      (xs.flatMap fun x => [f x, g x])[2 * i]? = some (f x)
        ∧ (xs.flatMap fun x => [f x, g x])[2 * i + 1]? = some (g x) := by
  induction xs with
  | nil => exact fun i x h => by simp at h
  | cons y ys ih =>
    intro i x h
    cases i with
    | zero =>
      obtain rfl : y = x := by simpa using h
      exact ⟨rfl, rfl⟩
    | succ i => exact ih i x (by simpa using h)

/-- The two words of a coefficient carry it with its sign, high word first (R53). -/
theorem toInt_coefWords (c : Coef) :
    ((c.signExtend 32).extractLsb' 16 16 ++ (c.signExtend 32).extractLsb' 0 16 : BitVec 32).toInt =
      c.toInt := by
  rw [BitVec.extractLsb'_append_extractLsb'_eq_extractLsb' (by omega), BitVec.extractLsb'_eq_self,
    BitVec.toInt_signExtend_of_le (by omega)]

theorem readReply_ended {u : State} {l : LaneId} {t0 start : Nat} (ht : (u.lane l).tail = some t0)
    (h : 256 * t0 ≤ start) (r : RefId) (n : Nat) :
    readReply u l r start n =
      { status := .ended, payload := [0, wordOf start, wordOf n], after := u } := by
  rw [readReply, tailOf_of_some ht, if_pos h]
  rfl

theorem readReply_moved {u : State} {l : LaneId} {t0 start : Nat} (ht : (u.lane l).tail = some t0)
    (h : start < 256 * t0) (r : RefId) (n : Nat) :
    readReply u l r start n = answer (transferWords start (movedTaps n start (256 * t0))
        (n - movedTaps n start (256 * t0))
      ++ (List.range (movedTaps n start (256 * t0))).flatMap fun i =>
        coefWords (u.store.readTap l r (start + i))) u := by
  rw [readReply, tailOf_of_some ht, if_neg (not_le.mpr h)]

/-- With its arguments in range a COEFF READ is answered by the lane's state, the reference and the chain,
in this order (R52). -/
theorem exec_coeffRead_args {p : Port} {m : Message} {s : State} {l : LaneId}
    (h : s.takes .coeffRead p m) (hl : m.names l) {r : RefId} (hr : argNat m 0 = r.val)
    (hn : argNat m 2 ≤ 8192) {a : Reply}
    (ha : (let u := s.beginEvent
      if (u.lane l).state = .unbound then refuse .wrongState u
      else if !(boundRefs (u.lane l)).contains r then refuse .badArg u
      else readReply u l r (argNat m 1) (argNat m 2)) = a) :
    exec (.coeffRead p m) s = .next (a.after.respond p 0x30 a.status a.payload) := by
  refine takeCommand_onLane h hl (a := a) ?_
  simp only [transferArgs_some hr hn]
  exact ha

/-- Settles O29: each clause is one branch of the owner, and each tap takes two words. -/
theorem coeffReadMovesTaps : Obligations.CoeffReadMovesTaps := by
  intro p m s l h hl u x start n answers
  refine ⟨fun hbad => ?_, fun h0 hn hx => ?_, fun r hr hn hx =>
    ⟨fun hmem => ?_, fun t0 hmem ht => ⟨fun hend => ?_, fun hin => ?_⟩⟩⟩
  · exact takeCommand_onLane h hl (a := refuse .badArg u) (by
      simp only [transferArgs_none hbad]
      rfl)
  · exact exec_coeffRead_args h hl (r := ⟨_, h0⟩) rfl hn (a := refuse .wrongState u) (if_pos hx)
  · exact exec_coeffRead_args h hl hr hn (a := refuse .badArg u)
      ((if_neg hx).trans (if_pos (by simpa using hmem)))
  · exact exec_coeffRead_args h hl hr hn
      ((if_neg hx).trans ((if_neg (by simpa using hmem)).trans (readReply_ended ht hend r n)))
  · refine ⟨_, exec_coeffRead_args h hl hr hn
      ((if_neg hx).trans ((if_neg (by simpa using hmem)).trans (readReply_moved ht hin r n))),
      ?_, fun i hi => ?_⟩
    · simp [coefWords, movedTaps_eq, Nat.mul_comm]
    · obtain ⟨hhi, hlo⟩ := getElem?_flatMap_pair
        (fun i => ((u.store.readTap l r (start + i)).signExtend 32).extractLsb' 16 16)
        (fun i => ((u.store.readTap l r (start + i)).signExtend 32).extractLsb' 0 16) _ i i
        (List.getElem?_range hi)
      exact ⟨_, _, hhi, hlo, toInt_coefWords _⟩

/-! ## COEFF WRITE (R54, R55) -/

/-- A job of the lane runs or its CLEAR waits (R54). -/
theorem holdsOffWrite_iff (s : State) (l : LaneId) :
    (s.jobInFlight l || s.waiting l .clear) = true ↔ (∃ j, s.engine.job = some j ∧ j.lane = l)
      ∨ { kind := .clear, lane := l } ∈ s.engine.queue := by
  rw [Bool.or_eq_true, jobInFlight_iff, State.waiting, List.contains_iff_mem]

theorem writeReply_ended {u : State} {l : LaneId} {t0 start : Nat} (ht : (u.lane l).tail = some t0)
    (h : 256 * t0 ≤ start) (m : Message) (r : RefId) (n : Nat) :
    writeReply u m l r start n =
      { status := .ended, payload := [0, wordOf start, wordOf n], after := u } := by
  rw [writeReply, tailOf_of_some ht, if_pos h]
  rfl

/-- What a COEFF WRITE of `n` values from tap `start` on leaves (R55). -/
def State.coeffsWritten (u : State) (m : Message) (l : LaneId) (r : RefId) (start n : Nat) : State :=
  ({ u with store := u.store.writeTaps l r start (carried m n) } : State).setLane l { u.lane l with
    counters := { (u.lane l).counters with
      coeffSats := countUp (u.lane l).counters.coeffSats (saturatedCount (carried m n)) } }

theorem writeReply_moved {u : State} {l : LaneId} {t0 start : Nat} (ht : (u.lane l).tail = some t0)
    (h : start < 256 * t0) (m : Message) (r : RefId) (n : Nat) :
    writeReply u m l r start n = answer (transferWords start (movedTaps n start (256 * t0))
        (n - movedTaps n start (256 * t0)))
      (u.coeffsWritten m l r start (movedTaps n start (256 * t0))) := by
  rw [writeReply, tailOf_of_some ht, if_neg (not_le.mpr h)]
  rfl

theorem saturatedCount_carried (m : Message) (n : Nat) :
    saturatedCount (carried m n) = ((List.range n).filter fun i =>
      decide (saturate24 (argLong m (3 + 2 * i)) ≠ argLong m (3 + 2 * i))).length := by
  rw [saturatedCount, carried, List.filter_map, List.length_map]
  rfl

/-- A value written to a tap that the chain has is read back saturated, and every other tap keeps its
value (R55). -/
theorem readTap_coeffsWritten (u : State) (m : Message) (l : LaneId) (r : RefId) {start n t0 : Nat}
    (hpos : ∀ j, j < t0 → (u.store.partAt l r j).isSome) (hfit : start + n ≤ 256 * t0) :
    (∀ i, i < n → ((u.coeffsWritten m l r start n).store.readTap l r (start + i)).toInt =
        saturate24 (argLong m (3 + 2 * i)))
      ∧ ∀ l' r' k, ¬(l' = l ∧ r' = r ∧ start ≤ k ∧ k < start + n) →
        (u.coeffsWritten m l r start n).store.readTap l' r' k = u.store.readTap l' r' k := by
  obtain ⟨hwritten, hkept⟩ := Store.readTap_writeTaps l r (carried m n) u.store start
  have hlen : (carried m n).length = n := by simp [carried]
  refine ⟨fun i hi => ?_, fun l' r' k hk => hkept l' r' k (by rwa [hlen])⟩
  have hread := hwritten i (by omega) (hpos _ (by omega))
  have hvalue : (carried m n)[i]'(by omega) = argLong m (3 + 2 * i) := by simp [carried]
  rw [hvalue] at hread
  exact (congrArg BitVec.toInt hread).trans (toInt_saturate24 _)

section
variable {m : Message} {s : State} {l : LaneId} (h : s.takes .coeffWrite .portS m) (hl : m.names l)
include h hl

theorem exec_coeffWrite_badArgs
    (hbad : ¬(argNat m 0 < 3 ∧ argNat m 2 ≤ 8192 ∧ m.payload.length = 3 + 2 * min (argNat m 2) 128)) :
    exec (.coeffWrite .portS m) s = .next (s.beginEvent.respond .portS 0x31 .badArg []) := by
  refine takeCommand_onLane h hl (a := refuse .badArg s.beginEvent) ?_
  by_cases hargs : 3 ≤ argNat m 0 ∨ 8192 < argNat m 2
  · simp only [transferArgs_none hargs]
  · obtain ⟨hr, hn⟩ := not_or.mp hargs
    simp only [transferArgs_some (r := ⟨argNat m 0, not_le.mp hr⟩) rfl (not_lt.mp hn)]
    exact if_pos fun hlen => hbad ⟨not_le.mp hr, not_lt.mp hn, hlen⟩

/-- With its arguments in range a COEFF WRITE is answered by the lane's state, the reference, what holds
it off and the chain, in this order (R54). -/
theorem exec_coeffWrite_args {r : RefId} (hr : argNat m 0 = r.val) (hn : argNat m 2 ≤ 8192)
    (hlen : m.payload.length = 3 + 2 * min (argNat m 2) 128) {a : Reply}
    (ha : (let u := s.beginEvent
      if (u.lane l).state = .unbound then refuse .wrongState u
      else if !(boundRefs (u.lane l)).contains r then refuse .badArg u
      else if (u.lane l).state ≠ .bypass then refuse .wrongState u
      else if u.jobInFlight l || u.waiting l .clear then refuse .busy u
      else writeReply u m l r (argNat m 1) (argNat m 2)) = a) :
    exec (.coeffWrite .portS m) s = .next (a.after.respond .portS 0x31 a.status a.payload) := by
  refine takeCommand_onLane h hl (a := a) ?_
  simp only [transferArgs_some hr hn]
  exact (if_neg (not_not.mpr hlen)).trans ha

/-- A COEFF WRITE to a chain of a BYPASS lane that nothing holds off. -/
theorem exec_coeffWrite_write {r : RefId} (hr : argNat m 0 = r.val) (hn : argNat m 2 ≤ 8192)
    (hlen : m.payload.length = 3 + 2 * min (argNat m 2) 128)
    (hx : (s.beginEvent.lane l).state = .bypass) (hmem : r ∈ boundRefs (s.beginEvent.lane l))
    (hfree : ¬((∃ j, s.beginEvent.engine.job = some j ∧ j.lane = l)
      ∨ { kind := .clear, lane := l } ∈ s.beginEvent.engine.queue)) {a : Reply}
    (ha : writeReply s.beginEvent m l r (argNat m 1) (argNat m 2) = a) :
    exec (.coeffWrite .portS m) s = .next (a.after.respond .portS 0x31 a.status a.payload) := by
  refine exec_coeffWrite_args h hl hr hn hlen ?_
  dsimp only
  rw [if_neg (by simp [hx]), if_neg (by simpa using hmem), if_neg (by simp [hx]),
    if_neg (mt (holdsOffWrite_iff _ _).mp hfree), ha]

end

/-- Settles O30: the refusals are the owner's branches in their order, and what an accepted COEFF WRITE
leaves is `State.coeffsWritten`. -/
theorem coeffWriteTable : Obligations.CoeffWriteTable := by
  refine ⟨fun m s l h hl => ?_, fun m s l r t0 h hl hr => ?_⟩
  · intro u x n answers argsOk held
    refine ⟨exec_coeffWrite_badArgs h hl, fun ⟨h0, hn, hlen⟩ hx => ?_,
      fun r ⟨_, hn, hlen⟩ hr hx => ⟨fun hmem => ?_, fun hmem hb => ?_, fun hmem hb hheld => ?_,
        fun t0 hmem hb hfree ht hend => ?_⟩⟩
    · exact exec_coeffWrite_args h hl (r := ⟨_, h0⟩) rfl hn hlen (a := refuse .wrongState u)
        (if_pos hx)
    · refine exec_coeffWrite_args h hl hr hn hlen (a := refuse .badArg u)
        ((if_neg hx).trans (if_pos ?_))
      simpa using hmem
    · refine exec_coeffWrite_args h hl hr hn hlen (a := refuse .wrongState u)
        ((if_neg hx).trans ((if_neg ?_).trans (if_pos hb)))
      simpa using hmem
    · refine exec_coeffWrite_args h hl hr hn hlen (a := refuse .busy u)
        ((if_neg hx).trans ((if_neg ?_).trans ((if_neg (not_not.mpr hb)).trans
          (if_pos ((holdsOffWrite_iff u l).mpr hheld)))))
      simpa using hmem
    · have ended := exec_coeffWrite_write h hl hr hn hlen hb hmem hfree
        (writeReply_ended ht hend m r (argNat m 2))
      rwa [wordOf_argNat, wordOf_argNat] at ended
  · intro u x start n moved value clampedTo hn hlen hb hmem ht hin hidle hclear hpos
    have hfree : ¬((∃ j, u.engine.job = some j ∧ j.lane = l)
        ∨ { kind := .clear, lane := l } ∈ u.engine.queue) := by
      rintro (⟨j, hj, heq⟩ | hwaits)
      · exact hidle j hj heq
      · exact hclear hwaits
    obtain ⟨hwritten, hkept⟩ := readTap_coeffsWritten u m l r (start := start) (n := moved) hpos (by
      have hmoved : moved ≤ 256 * t0 - start := (min_le_right _ _).trans (min_le_right _ _)
      omega)
    refine ⟨_, exec_coeffWrite_write h hl hr hn hlen hb hmem hfree (writeReply_moved ht hin m r n),
      State.respond_decoder .., hwritten, fun k hk => ?_, fun l' r' k hk => ?_, ?_, ?_, ?_, fun k hk => ?_,
      rfl, rfl⟩
    · exact hkept l r k (by omega)
    · exact hkept l' r' k fun hc => hk ⟨hc.1, hc.2.1⟩
    · exact Store.writeTaps_map ..
    · exact Store.writeTaps_scrub ..
    · rw [State.respond_lane, answer_after, State.coeffsWritten, State.lane_setLane, if_pos rfl,
        saturatedCount_carried]
      rfl
    · rw [State.respond_lane, answer_after, State.coeffsWritten, State.lane_setLane, if_neg hk]
      rfl

end Sys2Proof.Machine
end

section
/-! SUPPORT. STORE STATUS (R57), the completion of a CLEAR (R51) and the scrubber (R47, R48). -/

-- One proof at a time: the whole text elaborated at once does not fit the check's memory limit.
set_option Elab.async false

namespace Sys2Proof.Machine

/-! ## STORE STATUS (R42, R43, R57) -/

/-- Every map record is FREE, BOUND or SCRUB (R42). -/
theorem length_filter_partRecords (xs : List PartRecord) :
    (xs.filter fun x => x == .free).length + (xs.filter fun x => x.isBound).length
      + (xs.filter fun x => x == .scrub).length = xs.length := by
  induction xs with
  | nil => rfl
  | cons x xs ih =>
    cases x with
    | free | scrub | bound =>
      simp [PartRecord.isBound] at ih ⊢
      omega

/-- A chain has no partition at a position that no map record names (R43). -/
theorem Store.map_ne_of_partAt_none {st : Store} {l : LaneId} {r : RefId} {j : Nat}
    (h : st.partAt l r j = none) (p : PartId) : st.map[p] ≠ .bound l r j := by
  simpa using List.find?_eq_none.mp h p (List.mem_finRange p)

/-- Settles O31: the words of the report are the counts, the scrubber and the chains, and the records of
the map are of three kinds. -/
theorem storeStatusCountsThePool : Obligations.StoreStatusCountsThePool := by
  intro p m s l h hl u count free bound scrub number
  refine ⟨?_, ?_, fun r j i hi => Store.map_of_partAt hi, fun r j hnone => Store.map_ne_of_partAt_none hnone⟩
  · have records := length_filter_partRecords ((List.finRange 384).map fun i : PartId => u.store.map[i])
    rw [List.filter_map, List.filter_map, List.filter_map, List.length_map, List.length_map,
      List.length_map, List.length_map, List.length_finRange] at records
    exact records
  · refine (takeCommand_onLane h hl (a := answer (storeReport u l) u) rfl).trans ?_
    have hnumber : ∀ o : Option PartId, optWord (o.map fun i => i.val) = number o := by
      intro o
      cases o <;> rfl
    have hreport : storeReport u l = wordOf free :: wordOf bound :: wordOf scrub
        :: number u.store.scrub :: wordOf (min 32 free)
        :: (boundRefs (u.lane l)).flatMap fun r => wordOf r.val
          :: (List.range (tailOf (u.lane l))).map fun j => number (u.store.partAt l r j) := by
      simp only [storeReport, chainWords, hnumber]
      rfl
    rw [hreport]
    rfl

/-! ## The completion of a CLEAR (R38, R51) -/

theorem exec_clearComplete {s : State} {l : LaneId} (h : s.beginEvent.engine.job = some (.clear l)) :
    exec .clearComplete s = .next (s.beginEvent.completeClear l) := by
  simp only [exec, execClearComplete, h]

theorem State.completeClear_lane (u : State) (l k : LaneId) :
    (u.completeClear l).lane k = if k = l ∧ (u.lane l).state = .clearing then
      { u.lane l with state := .bypass } else u.lane k := by
  simp only [State.completeClear]
  split
  · rename_i hclearing
    refine (State.lane_setLane ..).trans ?_
    simp only [hclearing, and_true]
    rfl
  · rename_i hother
    simp only [hother, and_false, if_false]
    rfl

/-- Zeros written over a chain are read at each of its positions; a position that the chain has not reads
as zero as well (R51). -/
theorem readPart_writeChains_zeroChains (s : State) (l : LaneId) {r : RefId}
    (hr : r ∈ boundRefs (s.lane l)) {j : Nat} (hj : j < tailOf (s.lane l)) :
    (s.writeChains l (zeroChains (s.lane l))).store.readPart l r j = zeroPartition := by
  obtain ⟨hwritten, -, -⟩ := State.readPart_writeChains s l (zeroChains (s.lane l))
  have hchain : (zeroChains (s.lane l))[r] = List.replicate (tailOf (s.lane l)) zeroPartition := by
    simp [zeroChains, hr]
  cases hp : s.store.partAt l r j with
  | some p => simpa [hchain] using hwritten r j (by simpa [hchain] using hj) (by simp [hp])
  | none =>
    have hnone := Store.partAt_congr ((Keeps.refl s).writeChains l (zeroChains (s.lane l))).map l r j
    rw [Store.readPart, hnone, hp]

/-- Settles O39: the chains are overwritten with zeros, and of the lanes only a CLEARING one changes. -/
theorem clearCompletionZeroesChains : Obligations.ClearCompletionZeroesChains := by
  intro s l u x hjob
  obtain ⟨-, -, hothers⟩ := State.readPart_writeChains u l (zeroChains x)
  have kept := (Keeps.refl u).writeChains l (zeroChains x)
  have hstore : (u.completeClear l).store = (u.writeChains l (zeroChains x)).store := by
    simp only [State.completeClear]
    split <;> rfl
  refine ⟨_, exec_clearComplete hjob, ?_, fun k hk => ?_, fun r hr j hj => ?_, ?_, ?_, fun p hp => ?_, ?_⟩
  · rw [State.completeClear_lane]
    simp only [true_and]
    rfl
  · rw [State.completeClear_lane, if_neg fun hc => hk hc.1]
  · rw [hstore]
    exact readPart_writeChains_zeroChains u l hr hj
  · rw [hstore, kept.map]
  · rw [hstore, kept.scrub]
  · rw [hstore]
    exact hothers p hp
  · simp only [State.completeClear]
    split <;> exact ⟨rfl, rfl, rfl, rfl, rfl, rfl⟩

/-! ## The scrubber (R47, R48) -/

/-- A scrub's completion writes its partition alone (R48). -/
theorem Store.finishScrub_facts (st : Store) (p : PartId) :
    (st.finishScrub p).map[p] = .free ∧ (st.finishScrub p).coefs[p] = zeroPartition
      ∧ ∀ q : PartId, q ≠ p → (st.finishScrub p).map[q] = st.map[q]
        ∧ (st.finishScrub p).coefs[q] = st.coefs[q] := by
  refine ⟨by simp [Store.finishScrub], by simp [Store.finishScrub], fun q hq => ?_⟩
  have hne : p.val ≠ q.val := fun heq => hq (Fin.ext heq.symm)
  simp [Store.finishScrub, hne]

/-- Settles O32: `Store.startScrub` finds the lowest-numbered SCRUB partition, at a start and after a
completion. -/
theorem scrubberTakesLowest : Obligations.ScrubberTakesLowest := by
  intro s u w lowest
  refine ⟨fun hlow hidle => ?_, fun habandoned => ?_, fun p hp hscrub => ?_⟩
  · have started : w.settleScrubber = w.startScrubber := by
      rw [State.settleScrubber, hlow, hidle]
      rfl
    exact ⟨w.store.startScrub.scrub, congrArg _ started, started, Store.startScrub_lowest w.store⟩
  · simp only [exec, execScrubComplete, habandoned, if_true]
    split <;> rfl
  · obtain ⟨hfree, hzero, hothers⟩ := Store.finishScrub_facts u.store p
    have taken : exec .scrubComplete s =
        .next { u with store := (u.store.finishScrub p).startScrub } := by
      have hp' : s.beginEvent.store.scrub = some p := hp
      simp only [exec, execScrubComplete, hp', hscrub]
      rfl
    exact ⟨_, taken, hfree, hzero, hothers, Store.startScrub_lowest (u.store.finishScrub p)⟩

end Sys2Proof.Machine
end

section
/-! SUPPORT. LANE CONFIG, TALK CONFIG and METER CONFIG, and ENGINE STATUS (R80, R81, R91, R120). -/

set_option Elab.async false

namespace Sys2Proof.Machine

/-! ## The tuning of a lane (R80, R91, R120) -/

/-- A configuration command of a lane: CLAMPED unless every value was in its range (R150). -/
theorem takeCommand_configured {k : Kind} {m : Message} {s : State} {l : LaneId}
    (h : s.takes k .portS m) (hl : m.names l) {changed : State → LaneId → Bool}
    {stored : State → LaneId → List Word} {after : State → LaneId → State} {kept : Bool}
    (hkept : changed s.beginEvent l = !kept) :
    takeCommand k .portS m s (fun u => onBoundLane m u fun l =>
        configured (changed u l) (stored u l) (after u l)) =
      .next (if (s.beginEvent.lane l).state = .unbound then
          s.beginEvent.respond .portS (kindCode k) .wrongState []
        else (after s.beginEvent l).respond .portS (kindCode k) (if kept then .ok else .clamped)
          (stored s.beginEvent l)) := by
  by_cases hu : (s.beginEvent.lane l).state = .unbound
  · rw [if_pos hu]
    exact takeCommand_onUnboundLane h hl hu
  · rw [if_neg hu]
    refine (takeCommand_onBoundLane h hl hu rfl).trans ?_
    rw [configured_status, hkept]
    cases kept <;> rfl

/-- Settles O33: a value is clamped exactly when it lies outside its range, and no other field of the lane
is written. -/
theorem laneTuningStored : Obligations.LaneTuningStored := by
  intro m s l hl u x v word kept
  have hkept : ∀ n (lo hi : Nat), lo ≤ hi → clamped m n lo hi = !kept n lo hi := clamped_eq m
  refine ⟨fun h => ?_, fun h => ?_, fun h => ?_⟩
  · refine takeCommand_configured h hl (kept := kept 0 0 255 && kept 1 1 16 && kept 2 16 31) ?_
    simp only [hkept _ _ _ (Nat.zero_le 255), hkept _ 1 16 (by decide), hkept _ 16 31 (by decide),
      Bool.not_and]
    rfl
  · refine takeCommand_configured h hl
      (kept := kept 0 1 16 && kept 1 0 31 && kept 2 0 32767 && kept 3 0 32767) ?_
    simp only [hkept _ 1 16 (by decide), hkept _ _ _ (Nat.zero_le _), Bool.not_and]
    rfl
  · refine takeCommand_configured h hl
      (kept := kept 0 0 5 && kept 1 0 31 && kept 2 0 31 && kept 3 0 7) ?_
    simp only [hkept _ _ _ (Nat.zero_le _), Bool.not_and]
    rfl

/-! ## ENGINE STATUS (R81) -/

/-- Bit `l` of the set of ready lanes stands for lane `l` (R81, R156). -/
theorem readyWord_getLsbD (u : State) (l : LaneId) : (readyWord u).getLsbD l.val = u.ready l := by
  have ascending : (u.readyLanes.map Fin.val).SortedLT :=
    List.Pairwise.sortedLT (((List.sortedLT_finRange 16).pairwise.filter _).map _ fun _ _ h => h)
  have bits : (u.readyLanes.map fun k : LaneId => 2 ^ k.val).sum.bitIndices = u.readyLanes.map Fin.val := by
    simpa [Function.comp_def] using Nat.bitIndices_sum_map_two_pow ascending
  have mem : l.val ∈ u.readyLanes.map Fin.val ↔ u.ready l = true := by
    simp [State.readyLanes, allLanes, Fin.val_inj]
  rw [Bool.eq_iff_iff, ← mem, ← bits, Nat.mem_bitIndices, readyWord, wordOf, BitVec.getLsbD_ofNat]
  simp

/-- Settles O34: the report's parts in log 14's layout, with the set of ready lanes bit by bit. -/
theorem engineStatusReports : Obligations.EngineStatusReports := by
  intro p m s h hm u
  refine ⟨presentWords 2 (u.engine.job.map jobWords), u.engine.queue.flatMap entryWords, readyWord u,
    ?_, ?_, rfl, readyWord_getLsbD u⟩
  · refine (takeCommand_taken h _).trans ?_
    rw [onZero_eq, if_pos hm]
    simp only [answer_after, answer_status, answer_payload, engineReport, portWords, List.append_assoc]
    rfl
  · cases u.engine.job with
    | none => rfl
    | some j => cases j <;> rfl

end Sys2Proof.Machine
end

section
/-! SUPPORT. The divergence verdict and what a trip does to the lane (R69, R123 to R127). -/

set_option Elab.async false

namespace Sys2Proof.Machine

/-! ## Bit lengths (R69) -/

theorem bitLength_le_iff (n k : Nat) : bitLength n ≤ k ↔ n < 2 ^ k := by
  by_cases hn : n = 0
  · simp [bitLength, hn]
  · rw [bitLength, if_neg hn, Nat.succ_le_iff, Nat.log2_lt hn]

/-! ## The queue after a request (R61) -/

/-- A waiting entry repeats a request other than a SHIFT exactly when it is the same entry. -/
theorem MaintEntry.sameAs_iff_eq {k : MaintKind} (hk : ∀ r d, k ≠ .shift r d) (l : LaneId)
    (e : MaintEntry) :
    ({ kind := k, lane := l } : MaintEntry).sameAs e = true ↔ e = { kind := k, lane := l } := by
  obtain ⟨j, l'⟩ := e
  cases k with
  | shift r d => exact absurd rfl (hk r d)
  | save | restore | clear => cases j <;> simp [MaintEntry.sameAs, eq_comm (a := l)]

/-- A request other than a SHIFT, for a bound lane: afterwards its entry waits, with those that did. -/
theorem State.mem_request_queue {s : State} {l : LaneId} (hb : (s.lane l).state ≠ .unbound)
    {k : MaintKind} (hk : ∀ r d, k ≠ .shift r d) (e : MaintEntry) :
    e ∈ (s.request l k).engine.queue ↔ e ∈ s.engine.queue ∨ e = { kind := k, lane := l } := by
  simp only [State.request, hb, decide_false, Bool.false_or, List.any_eq_true,
    MaintEntry.sameAs_iff_eq hk]
  split
  · rename_i hwaits
    obtain ⟨_, hwaits, rfl⟩ := hwaits
    exact (or_iff_left_of_imp fun he => he ▸ hwaits).symm
  · simp

/-! ## A trip (R125 to R127) -/

/-- The trip count does not pass the retry attempts: the lane is to be TRIPPED (R126). -/
abbrev retriesLeft (x : Lane) : Prop := x.guard.tripCount + 1 ≤ x.guard.attempts

section
variable (s : State) (l : LaneId) (start : Guard)

/-- The record that a trip leaves. -/
def trippedLane (x : Lane) (start : Guard) : Lane :=
  { x with
    state := if retriesLeft x then .tripped else .lockout
    lock := false
    guard := { trippedGuard x.guard with
      retry := if retriesLeft x then some (start.retryDelay * 8) else x.guard.retry } }

/-- A trip, with the two outcomes of R126 and R127 told apart in its parts. -/
theorem State.trip_eq : s.trip l start =
    (((s.dropSave l).setLane l (trippedLane (s.lane l) start)).request l
      (if retriesLeft (s.lane l) then .restore else .clear)).raiseLane
        (if retriesLeft (s.lane l) then .laneTrip else .laneLockout) l := by
  have tripped : (trippedGuard (s.lane l).guard).tripCount ≤ (trippedGuard (s.lane l).guard).attempts
      ↔ retriesLeft (s.lane l) := .rfl
  simp only [State.trip, tripped, trippedLane]
  split <;> rfl

theorem State.trip_lane : (s.trip l start).lane l = trippedLane (s.lane l) start := by
  simp [State.trip_eq]

theorem State.trip_lane_ne {k : LaneId} (hk : k ≠ l) : (s.trip l start).lane k = s.lane k := by
  simp [State.trip_eq, State.lane_setLane, hk, State.dropSave]

theorem State.trip_store : (s.trip l start).store = s.store := by
  simp [State.trip_eq, State.dropSave]

theorem State.trip_ports : (s.trip l start).ports =
    (s.raise (if retriesLeft (s.lane l) then .laneTrip else .laneLockout) l.val).ports := by
  simp [State.trip_eq, State.raiseLane, State.raise, State.dropSave]

/-- The lane's SAVE has left the queue, and its RESTORE or its CLEAR waits. -/
theorem State.mem_trip_queue (e : MaintEntry) : e ∈ (s.trip l start).engine.queue ↔
    (e ∈ s.engine.queue ∧ e ≠ { kind := .save, lane := l })
      ∨ e = { kind := if retriesLeft (s.lane l) then .restore else .clear, lane := l } := by
  have bound : ((((s.dropSave l).setLane l (trippedLane (s.lane l) start))).lane l).state ≠ .unbound := by
    rw [State.lane_setLane_self, trippedLane]
    dsimp only
    split <;> decide
  have plain : ∀ r d, (if retriesLeft (s.lane l) then MaintKind.restore else .clear) ≠ .shift r d := by
    intro r d
    split <;> simp
  rw [State.trip_eq, State.raiseLane_engine, State.mem_request_queue bound plain]
  simp [State.dropSave, State.removeEntries]

end

/-! ## The verdict (R123, R124) -/

/-- The verdict on a FAR or a DOUBLE frame. -/
theorem judge_far_or_double (g : Guard) {t : TalkState} (ht : t = .far ∨ t = .double) (em eo : Nat) :
    judge g t em eo = if bitLength em + g.margin < bitLength eo then
        if g.divergence + 1 < g.hold then .raise (g.divergence + 1) else .trip
      else .clear := by
  obtain rfl | rfl := ht <;> simp [judge, diverging]

/-- Settles O46: a row of the table for each verdict, and a trip by its parts. -/
theorem tripTable : Obligations.TripTable := by
  refine ⟨bitLength_le_iff, fun s l g v hdiscarded => ?_, fun s l g t em eo => ?_⟩
  · obtain hrun | rfl := hdiscarded
    · exact if_neg hrun
    · exact ite_self s
  · intro x trips s' diverging
    have applied : ∀ {v}, judge g t em eo = v → s' = s.guardStep l g v := fun hv => by rw [← hv]
    refine ⟨fun ht => ?_, fun ht hsteady hrun => ?_, fun ht hdiverging hrun =>
      ⟨fun hbelow => ?_, fun hheld => ?_⟩⟩
    · obtain rfl | rfl := ht <;> exact ite_self s
    · exact (applied ((judge_far_or_double g ht ..).trans (if_neg hsteady))).trans (if_pos hrun)
    · exact (applied ((judge_far_or_double g ht ..).trans
        ((if_pos hdiverging).trans (if_pos hbelow)))).trans (if_pos hrun)
    · have tripped : s' = s.trip l g := (applied ((judge_far_or_double g ht ..).trans
        ((if_pos hdiverging).trans (if_neg (not_lt.mpr hheld))))).trans (if_pos hrun)
      rw [tripped, State.trip_lane, State.trip_ports, State.trip_store]
      refine ⟨rfl, rfl, rfl, rfl, rfl, ?_, fun k hk => s.trip_lane_ne l g hk, rfl, fun hretries => ?_,
        fun hlast => ?_⟩
      · rw [State.mem_trip_queue]
        split <;> simp
      · have left : retriesLeft (s.lane l) := hretries
        simp [State.mem_trip_queue, trippedLane, left]
      · have spent : ¬retriesLeft (s.lane l) := not_le.mpr hlast
        simp [State.mem_trip_queue, trippedLane, spent]
        rfl

end Sys2Proof.Machine
end

section
/-! SUPPORT. The arbiter's choice and the start of a job (R63 to R66, R77, R78, R130). -/

set_option Elab.async false

namespace Sys2Proof.Machine

/-! ## The engine's counts

What Realign Control and the trackers do to the engine's record is to queue SHIFTs. -/

/-- From `s` to `t` the budget and the passes completed stay. -/
structure CountsKept (s t : State) : Prop where
  budget : t.engine.budget = s.engine.budget
  passes : t.engine.passes = s.engine.passes

section
variable {s t : State}

theorem CountsKept.refl (s : State) : CountsKept s s := ⟨rfl, rfl⟩

theorem CountsKept.same {u : State} (h : CountsKept s t) (he : u.engine = t.engine := by rfl) :
    CountsKept s u := ⟨he ▸ h.budget, he ▸ h.passes⟩

theorem CountsKept.request (h : CountsKept s t) (l : LaneId) (k : MaintKind) :
    CountsKept s (t.request l k) := by
  simp only [State.request]
  split
  · exact h
  · exact ⟨h.budget, h.passes⟩

theorem CountsKept.requestShifts (r : RefId) (d : Nat) (ls : List LaneId) :
    ∀ {t : State}, CountsKept s t → CountsKept s (t.requestShifts r d ls) := by
  induction ls with
  | nil => exact fun h => h
  | cons l ls ih => exact fun h => ih (h.request l _)

theorem CountsKept.commitIdle (h : CountsKept s t) (r : RefId) (d : Nat) (o : Origin) :
    CountsKept s (t.commitIdle r d o).1 := by
  simp only [State.commitIdle, State.setTarget]
  split
  · exact h
  · split
    · exact h.same
    · split
      · exact h.same
      · exact CountsKept.requestShifts r d _ h.same

theorem CountsKept.propose (h : CountsKept s t) (r : RefId) : CountsKept s (t.propose r) := by
  simp only [State.propose, State.commit]
  split
  · split
    · split
      · exact h.same
      · exact h.commitIdle r _ _
    · exact h
  · exact h

theorem CountsKept.trackMicrophone (h : CountsKept s t) (r : RefId) (f : Epoch) (x : Frame) :
    CountsKept s (t.trackMicrophone r f x) := by
  simp only [State.trackMicrophone]
  split
  · split
    · exact h
    · split
      · exact CountsKept.propose h.same r
      · exact h.same
      · exact h
  · exact h

theorem CountsKept.handToTrackers (l : LaneId) (f : InFrame) (rs : List RefId) :
    ∀ {t : State}, CountsKept s t → CountsKept s (t.handToTrackers l f rs) := by
  induction rs with
  | nil => exact fun h => h
  | cons r rs ih =>
    intro t h
    rw [State.handToTrackers]
    split
    · exact ih (h.trackMicrophone r _ _)
    · exact ih h

end

/-! ## Pulses that have ended (R160) -/

theorem State.endPulses_of_ports {s : State} (h : s.endPulses.ports = s.ports) : s.endPulses = s :=
  calc s.endPulses = { s with ports := s.endPulses.ports } := rfl
    _ = s := by rw [h]

/-- A start finds the pulses of earlier events ended. -/
theorem beginStart_endPulses_ports (s : State) :
    s.beginStart.endPulses.ports = s.beginStart.ports := by
  refine Vector.ext fun i hi => ?_
  simp only [State.beginStart, State.endPulses, Vector.getElem_ofFn, Fin.getElem_fin]
  split <;> simp_all

/-! ## Readiness and the arbiter's choice (R63, R64) -/

theorem anyWaiting_iff (s : State) (l : LaneId) :
    s.anyWaiting l = true ↔ ∃ e ∈ s.engine.queue, e.lane = l := by
  simp [State.anyWaiting]

theorem refReady_iff (x : Reference) (now e : Epoch) : refReady x now e = true ↔
    (x.state = .active → ((slotFor x e).epoch = e ∧ ((slotFor x e).fill = .data
      ∨ (slotFor x e).fill = .gap)) ∨ (x.wait : Int) ≤ behind now e) := by
  simp only [refReady, holdsData, holdsGap, Bool.or_eq_true, decide_eq_true_eq, and_or_left, or_assoc,
    ne_eq, imp_iff_not_or]

/-- The four conditions of R63. -/
theorem State.ready_iff (s : State) (l : LaneId) : s.ready l = true ↔
    ((s.lane l).state = .run ∨ (s.lane l).state = .tripped)
      ∧ (∀ j, s.engine.job = some j → j.lane ≠ l) ∧ (∀ e ∈ s.engine.queue, e.lane ≠ l)
      ∧ ∃ f rest, (s.lane l).input = f :: rest
        ∧ ∀ r ∈ boundRefs (s.lane l), refReady (s.ref r) s.epoch f.epoch = true := by
  have idle : s.jobInFlight l = false ↔ ∀ j, s.engine.job = some j → j.lane ≠ l := by
    rw [← Bool.not_eq_true, jobInFlight_iff]
    exact not_exists.trans (forall_congr' fun _ => not_and)
  have unasked : s.anyWaiting l = false ↔ ∀ e ∈ s.engine.queue, e.lane ≠ l := by
    rw [← Bool.not_eq_true, anyWaiting_iff]
    exact not_exists.trans (forall_congr' fun _ => not_and)
  rw [← idle, ← unasked]
  cases hin : (s.lane l).input with
  | nil => simp [State.ready, headEpoch, hin]
  | cons f rest => simp [State.ready, headEpoch, hin, runsPasses, and_assoc]

theorem State.mem_readyLanes (s : State) (l : LaneId) : l ∈ s.readyLanes ↔ s.ready l = true := by
  simp [State.readyLanes, allLanes]

theorem State.readyLanes_pairwise (s : State) : s.readyLanes.Pairwise (· < ·) :=
  (List.sortedLT_finRange 16).pairwise.filter _

theorem State.headAge_eq (s : State) (l : LaneId) : s.headAge l = match (s.lane l).input with
    | f :: _ => behind s.epoch f.epoch
    | [] => 0 := by
  rw [State.headAge, headEpoch]
  cases (s.lane l).input <;> rfl

/-- The arbiter finds the oldest head frame, the lowest-numbered lane among equals (R64). -/
theorem State.oldest_cons (s : State) (ls : List LaneId) :
    ∀ k, (k :: ls).Pairwise (· < ·) → ∃ l, s.oldest (k :: ls) = some l ∧ l ∈ k :: ls
      ∧ (∀ l' ∈ k :: ls, s.headAge l' ≤ s.headAge l)
      ∧ ∀ l' ∈ k :: ls, s.headAge l' = s.headAge l → l ≤ l' := by
  induction ls with
  | nil => exact fun k _ => ⟨k, rfl, by simp⟩
  | cons j ls ih =>
    intro k hk
    obtain ⟨hlow, hrest⟩ := List.pairwise_cons.mp hk
    obtain ⟨l, hl, hmem, hold, hleast⟩ := ih j hrest
    rw [State.oldest, hl]
    dsimp only
    split
    · rename_i hyounger
      refine ⟨l, rfl, List.mem_cons_of_mem _ hmem, fun l' hl' => ?_, fun l' hl' hage => ?_⟩
      · obtain rfl | hl' := List.mem_cons.mp hl'
        · exact hyounger.le
        · exact hold l' hl'
      · obtain rfl | hl' := List.mem_cons.mp hl'
        · exact absurd hage hyounger.ne
        · exact hleast l' hl' hage
    · rename_i holder
      refine ⟨k, rfl, List.mem_cons_self, fun l' hl' => ?_, fun l' hl' hage => ?_⟩
      · obtain rfl | hl' := List.mem_cons.mp hl'
        · exact le_rfl
        · exact (hold l' hl').trans (not_lt.mp holder)
      · obtain rfl | hl' := List.mem_cons.mp hl'
        · exact le_rfl
        · exact (hlow l' hl').le

/-- With a lane ready the arbiter chooses a ready lane by R64. -/
theorem State.oldest_readyLanes {s : State} {k : LaneId} (hk : s.ready k = true) :
    ∃ l, s.oldest s.readyLanes = some l ∧ s.ready l = true
      ∧ (∀ l', s.ready l' = true → s.headAge l' ≤ s.headAge l)
      ∧ ∀ l', s.ready l' = true → s.headAge l' = s.headAge l → l ≤ l' := by
  simp only [← State.mem_readyLanes] at hk ⊢
  have ascending := s.readyLanes_pairwise
  revert hk ascending
  cases s.readyLanes with
  | nil => exact fun hk => absurd hk List.not_mem_nil
  | cons j ls => exact fun _ ascending => s.oldest_cons ls j ascending

/-- Beside the arbiter's start no step of an event's beginning touches the engine's record (R47, R160). -/
theorem State.beginEvent_engine (s : State) :
    s.beginEvent.engine = s.beginStart.arbitrate.engine := by
  rw [State.beginEvent, State.settleScrubber]
  split <;> rfl

/-! ## PASS_START (R64 to R66, R77, R78) -/

theorem exec_passStart {s : State} (hidle : s.beginStart.engine.job = none)
    (hqueue : s.beginStart.engine.queue = []) :
    exec .passStart s = .next s.beginStart.startOldestPass :=
  congrArg Host.Outcome.next (if_neg (by simp [hidle, hqueue]))

/-- What the start of a pass does before the trackers are handed the frame (R66, R77, R78). -/
def State.passing (s : State) (l : LaneId) (f : InFrame) (rest : List InFrame) : State :=
  let inputs := s.passInputs l f
  let grant := inputs.grantFrom s.engine.budget
  { s.setLane l { s.lane l with input := rest, inFlight := some f } with
    engine := { s.engine with job := some (.pass inputs grant), budget := s.engine.budget - grant } }

theorem State.startPass_eq {s : State} {l : LaneId} {f : InFrame} {rest : List InFrame}
    (h : (s.lane l).input = f :: rest) :
    s.startPass l = (s.passing l f rest).handToTrackers l f allRefs := by
  simp only [State.startPass, h]
  rfl

/-- What the start of a pass does beside `State.passing`: the OPEN trackers that the lane pilots act. -/
theorem realigned_startPass (s : State) (l : LaneId) (f : InFrame) (rest : List InFrame) :
    Realigned (fun r => (s.tracker r).pilot = l ∧ (s.tracker r).state = .opened)
      (fun r => (s.tracker r).pilot = l ∧ (s.tracker r).state = .opened) (fun _ => True)
      (s.passing l f rest) ((s.passing l f rest).handToTrackers l f allRefs) :=
  Realigned.handToTrackers l f allRefs allRefs_nodup (.refl _) fun _ _ hpilot hopen =>
    ⟨⟨hpilot, hopen⟩, ⟨hpilot, hopen⟩, trivial⟩

theorem State.chains_getElem {s : State} {l : LaneId} {r : RefId} (hr : r ∈ boundRefs (s.lane l)) :
    (s.chains l)[r] = s.store.readChain l r (tailOf (s.lane l)) := by
  simp [State.chains, hr]

/-- Settles O35: the arbiter's choice by `State.oldest_readyLanes`, the rest by what handing the frame to
the trackers leaves alone. -/
theorem passStartTakesOldestLane : Obligations.PassStartTakesOldestLane := by
  refine ⟨fun u l => ?_, fun s k => ?_⟩
  · simp only [State.ready_iff, refReady_iff]
    rfl
  · intro u age hidle hqueue hready
    obtain ⟨l, hchosen, hl, hold, hleast⟩ := State.oldest_readyLanes hready
    have hage : ∀ l', age l' = u.headAge l' := fun l' => (u.headAge_eq l').symm
    obtain ⟨-, -, -, f, rest, hin, -⟩ := (u.ready_iff l).mp hl
    let before := u.passing l f rest
    let t := before.handToTrackers l f allRefs
    have acted : Realigned _ _ _ before t := realigned_startPass u l f rest
    have steady : Steady before t := Steady.handToTrackers l f allRefs (.refl _)
    have counts : CountsKept before t := CountsKept.handToTrackers l f allRefs (.refl _)
    have chosen : u.startOldestPass = t := by
      rw [State.startOldestPass, hchosen]
      exact State.startPass_eq hin
    have taken : exec .passStart s = .next t :=
      (exec_passStart hidle hqueue).trans (congrArg _ chosen)
    have arbitrated : u.arbitrate = t := by
      simp only [State.arbitrate, hidle, hqueue]
      exact chosen
    have quiet : (∀ r, (u.tracker r).state ≠ .opened) → t = before := fun hnone =>
      State.handToTrackers_of_none_opened l f allRefs hnone
    simp only [hage]
    refine ⟨l, f, rest, t, u.passInputs l f, (u.passInputs l f).grantFrom u.engine.budget, taken, hl, hold,
      hleast, hin, ?_, fun l' hl' => ?_, acted.job, rfl, rfl, rfl, rfl, fun r hr => u.chains_getElem hr, rfl,
      counts.budget, counts.passes, acted.store, acted.refs, acted.checkpoints, steady.epoch,
      fun r hr => ⟨acted.tracker r fun hc => hr hc.1, acted.realign r fun hc => hr hc.1⟩,
      fun r hr => acted.tracker r fun hc => hr hc.2, fun hnone => ?_, fun p => (steady.port p).1,
      State.handToTrackers_eq_foldl l f allRefs before, ?_, ?_⟩
    · rw [acted.lane]
      exact State.lane_setLane_self ..
    · rw [acted.lane]
      exact (State.lane_setLane ..).trans (if_neg hl')
    · rw [quiet hnone]
      exact ⟨rfl, rfl, rfl⟩
    · exact congrArg State.endPulses arbitrated
    · rw [State.beginEvent_engine, arbitrated]

/-! ## MAINTENANCE_START (R60, R64, R130) -/

theorem boundRefs_nodup (x : Lane) : (boundRefs x).Nodup :=
  List.Nodup.filter _ allRefs_nodup

/-- The slots of an entry are those of the bound references in turn, as many to each (R130). -/
theorem CheckpointStore.entryChains_getElem (cs : CheckpointStore) {refs : List RefId} (hnd : refs.Nodup)
    (c : Checkpoint) {i : Nat} {r : RefId} (hi : refs[i]? = some r) :
    (cs.entryChains refs c)[r] =
      ((c.slots.drop (c.span * i)).take c.span).map fun n => cs.slots[n] := by
  obtain ⟨hlt, rfl⟩ := List.getElem?_eq_some_iff.mp hi
  simp [CheckpointStore.entryChains, hnd.idxOf_getElem]

/-- A reference that is not bound has no slots. -/
theorem CheckpointStore.entryChains_unbound (cs : CheckpointStore) {refs : List RefId}
    (c : Checkpoint) {r : RefId} (hr : r ∉ refs) : (cs.entryChains refs c)[r] = [] := by
  simp [CheckpointStore.entryChains, hr]

/-- A RESTORE reads the slots of the entry on top of the stack (R130, R135). -/
theorem State.jobOf_restore {s : State} {e : MaintEntry} (hk : e.kind = .restore) :
    ∃ saved, s.jobOf e = .restore e.lane (s.lane e.lane) saved
      ∧ ((s.lane e.lane).guard.stack = [] → saved = Vector.replicate 3 [])
      ∧ ∀ c more, (s.lane e.lane).guard.stack = c :: more →
        saved = s.checkpoints.entryChains (boundRefs (s.lane e.lane)) c := by
  simp only [State.jobOf, hk]
  cases (s.lane e.lane).guard.stack with
  | nil => exact ⟨_, rfl, fun _ => rfl, by simp⟩
  | cons c more => exact ⟨_, rfl, by simp, by simp⟩

theorem exec_maintenanceStart {s : State} {e : MaintEntry} {rest : List MaintEntry}
    (hidle : s.beginStart.engine.job = none) (hqueue : s.beginStart.engine.queue = e :: rest) :
    exec .maintenanceStart s = .next s.beginStart.startMaintenance :=
  congrArg Host.Outcome.next (if_neg (by simp [hidle, hqueue]))

/-- Settles O36: the job by the kind of its entry. -/
theorem maintenanceStartTakesOldest : Obligations.MaintenanceStartTakesOldest := by
  intro s e rest u x hidle hqueue
  have started : u.startMaintenance =
      { u with engine := { u.engine with job := some (u.jobOf e), queue := rest } } := by
    simp only [State.startMaintenance, hqueue]
  have arbitrated : u.arbitrate = u.startMaintenance := by
    simp [State.arbitrate, hidle, hqueue]
  have ended : u.startMaintenance.endPulses = u.startMaintenance := by
    rw [started]
    exact State.endPulses_of_ports (beginStart_endPulses_ports s)
  refine ⟨u.jobOf e, ?_, u.jobOf_lane e, fun hk => ?_, fun r d hk => ?_, fun hk => ?_, fun hk => ?_, ?_, ?_⟩
  · exact (exec_maintenanceStart hidle hqueue).trans (congrArg _ started)
  · simp only [State.jobOf, hk]
  · simp only [State.jobOf, hk]
    rfl
  · simp only [State.jobOf, hk]
  · obtain ⟨saved, hjob, hempty, htop⟩ := State.jobOf_restore (s := u) hk
    refine ⟨saved, hjob, hempty, fun c more hstack => ?_⟩
    rw [htop c more hstack]
    exact ⟨fun r hr => u.checkpoints.entryChains_unbound c hr,
      fun i r hi => u.checkpoints.entryChains_getElem (boundRefs_nodup x) c hi⟩
  · rw [State.beginScrub, arbitrated, ended, started]
  · rw [State.beginEvent_engine, arbitrated, started]

end Sys2Proof.Machine
end

section
/-! SUPPORT. The meter and the guard at a pass's completion act on a small part of the state: what they
find elsewhere makes no difference to them, and they leave it as it is (R113 to R116, R124 to R127, R132). -/

set_option Elab.async false

namespace Sys2Proof.Machine

/-! ## The part of the state that the meter and the guard act on -/

/-- The record `y` with the fields of `x` that the meter and the guard act on. -/
def judgedLane (x y : Lane) : Lane :=
  { y with state := x.state, lock := x.lock, meter := x.meter, guard := x.guard }

@[simp] theorem judgedLane_state (x y : Lane) : (judgedLane x y).state = x.state := rfl
@[simp] theorem judgedLane_lock (x y : Lane) : (judgedLane x y).lock = x.lock := rfl
@[simp] theorem judgedLane_meter (x y : Lane) : (judgedLane x y).meter = x.meter := rfl
@[simp] theorem judgedLane_guard (x y : Lane) : (judgedLane x y).guard = x.guard := rfl

/-- The part `w` with what the meter and the guard of lane `l` act on taken from `s`: the lane's mode, lock
flag, meter and guard, the epoch, the Maintenance Queue and the ports. -/
def State.graft (s : State) (l : LaneId) (w : State) : State :=
  { w.setLane l (judgedLane (s.lane l) (w.lane l)) with
    epoch := s.epoch, engine := { w.engine with queue := s.engine.queue }, ports := s.ports }

section
variable (s w : State) (l : LaneId)

@[simp] theorem State.graft_lane : (s.graft l w).lane l = judgedLane (s.lane l) (w.lane l) :=
  State.lane_setLane_self ..
@[simp] theorem State.graft_epoch : (s.graft l w).epoch = s.epoch := rfl
@[simp] theorem State.graft_queue : (s.graft l w).engine.queue = s.engine.queue := rfl

theorem State.graft_self : s.graft l s = s := by
  have same : judgedLane (s.lane l) (s.lane l) = s.lane l := rfl
  rw [State.graft, same, State.setLane_lane_self]

variable {s w l} in
theorem State.graft_setLane {x y : Lane} (hy : y = judgedLane x (w.lane l)) :
    (s.graft l w).setLane l y = (s.setLane l x).graft l w := by
  simp only [hy, State.graft, State.lane_setLane_self]
  simp only [State.setLane, Vector.set_set]

/-! ## The operations of the meter and the guard -/

theorem State.graft_raiseLane (k : NoticeKind) :
    (s.graft l w).raiseLane k l = (s.raiseLane k l).graft l w := rfl

theorem State.graft_dropSave : (s.graft l w).dropSave l = (s.dropSave l).graft l w := rfl

theorem State.graft_request (k : MaintKind) :
    (s.graft l w).request l k = (s.request l k).graft l w := by
  simp only [State.request, State.graft_lane, State.graft_queue, judgedLane_state]
  split <;> rfl

theorem State.graft_testLatch (start : Meter) (n : Nat) :
    (s.graft l w).testLatch l start n = (s.testLatch l start n).graft l w := by
  simp only [State.testLatch, State.graft_lane, judgedLane_lock]
  split
  · split <;> rfl
  · split
    · rw [← State.graft_raiseLane]
      exact congrArg (State.raiseLane · .erleLock l) (State.graft_setLane rfl)
    · rfl

theorem State.graft_autoSave (start : Guard) (n : Nat) :
    (s.graft l w).autoSave l start n = (s.autoSave l start n).graft l w := by
  simp only [State.autoSave, State.graft_lane, judgedLane_state, judgedLane_lock, judgedLane_guard,
    State.graft_epoch, State.anyShiftWaiting, State.graft_queue]
  exact (if_congr .rfl (State.graft_request s w l _) rfl).trans
    (apply_ite (State.graft · l w) _ _ _).symm

theorem State.graft_meterWindow (start : Lane) (wasRun : Bool) (em eo : Nat) :
    (s.graft l w).meterWindow l start wasRun em eo = (s.meterWindow l start wasRun em eo).graft l w := by
  have metered : ∀ m : Meter, (s.graft l w).setLane l { judgedLane (s.lane l) (w.lane l) with meter := m } =
      (s.setLane l { s.lane l with meter := m }).graft l w := fun m => State.graft_setLane rfl
  simp only [State.meterWindow, State.graft_lane, judgedLane_meter, metered, State.graft_testLatch,
    State.graft_autoSave]
  split
  · split <;> rfl
  · rfl

theorem State.graft_meterStep (start : Lane) (wasRun : Bool) (t : TalkState) (em eo : Nat) :
    (s.graft l w).meterStep l start wasRun t em eo = (s.meterStep l start wasRun t em eo).graft l w := by
  have metered : (s.graft l w).setLane l { judgedLane (s.lane l) (w.lane l) with
      meter := meterRecent (s.lane l).meter em eo } =
      (s.setLane l { s.lane l with meter := meterRecent (s.lane l).meter em eo }).graft l w :=
    State.graft_setLane rfl
  simp only [State.meterStep, State.graft_lane, judgedLane_meter, metered, State.graft_meterWindow]
  split <;> rfl

theorem State.graft_trip (start : Guard) :
    (s.graft l w).trip l start = (s.trip l start).graft l w := by
  have tripped : ((s.graft l w).dropSave l).setLane l
        (trippedLane (judgedLane (s.lane l) (w.lane l)) start) =
      ((s.dropSave l).setLane l (trippedLane (s.lane l) start)).graft l w := by
    rw [State.graft_dropSave]
    exact State.graft_setLane rfl
  simp only [State.trip_eq, State.graft_lane, tripped, State.graft_request, retriesLeft, judgedLane_guard]
  rfl

theorem State.graft_guardStep (start : Guard) (v : Verdict) :
    (s.graft l w).guardStep l start v = (s.guardStep l start v).graft l w := by
  have counted : ∀ n, (s.graft l w).setDivergence l n = (s.setDivergence l n).graft l w := fun n => by
    simp only [State.setDivergence, State.graft_lane]
    exact State.graft_setLane rfl
  simp only [State.guardStep, State.graft_lane, judgedLane_state]
  split
  · cases v with
    | unchanged => rfl
    | clear => exact counted 0
    | raise n => exact counted n
    | trip => exact State.graft_trip s w l start
  · rfl

end

/-! ## The meter and then the guard (R68 steps 3 and 4) -/

section
variable (s : State) (l : LaneId)

theorem State.testLatch_meter (start : Meter) (n : Nat) :
    ((s.testLatch l start n).lane l).meter = (s.lane l).meter := by
  simp only [State.testLatch]
  split
  · split <;> simp
  · split <;> simp

theorem State.autoSave_lane (start : Guard) (n : Nat) :
    (s.autoSave l start n).lane l = s.lane l := by
  simp only [State.autoSave]
  split
  · exact State.request_lane ..
  · rfl

/-- Adding a frame to the window and latching it leave the recent energies (R114, R115). -/
theorem State.meterWindow_recent (start : Lane) (wasRun : Bool) (em eo : Nat) :
    ((s.meterWindow l start wasRun em eo).lane l).meter.recent = (s.lane l).meter.recent := by
  have added : ∀ m w, (meterAdd m w em eo).recent = m.recent := fun m w => by
    rw [meterAdd]
    split <;> rfl
  simp only [State.meterWindow]
  split
  · split
    · simp [State.autoSave_lane, State.testLatch_meter, meterLatch, added]
    · simp [meterLatch, added]
  · simp [added]

theorem State.meterStep_recent (start : Lane) (wasRun : Bool) (t : TalkState) (em eo : Nat) :
    ((s.meterStep l start wasRun t em eo).lane l).meter.recent =
      some { mic := em, out := eo, steps := lossSteps em eo } := by
  simp only [State.meterStep]
  split
  · rw [State.meterWindow_recent, State.lane_setLane_self]
    rfl
  · rw [State.lane_setLane_self]
    rfl

theorem State.guardStep_meter (start : Guard) (v : Verdict) :
    ((s.guardStep l start v).lane l).meter = (s.lane l).meter := by
  simp only [State.guardStep, State.setDivergence]
  split
  · cases v with
    | unchanged => rfl
    | clear | raise => simp
    | trip => rw [State.trip_lane]; rfl
  · rfl

end

/-- What the meter and the guard make of a pass of `i` with the results `res` (R68 steps 3 and 4). -/
def State.judged (s : State) (i : PassInputs) (res : PassResults) : State :=
  (s.meterStep i.lane i.record i.wasRun res.talk res.micEnergy res.outEnergy).guardStep i.lane
    i.record.guard res.verdict

section
variable (s w : State) (i : PassInputs) (res : PassResults)

theorem State.graft_judged : (s.graft i.lane w).judged i res = (s.judged i res).graft i.lane w := by
  rw [State.judged, State.graft_meterStep, State.graft_guardStep]
  rfl

/-- What the meter and the guard leave as it is. -/
theorem State.judged_eq : (s.judged i res).graft i.lane s = s.judged i res := by
  rw [← State.graft_judged, State.graft_self]

theorem State.judged_lane :
    (s.judged i res).lane i.lane = judgedLane ((s.judged i res).lane i.lane) (s.lane i.lane) := by
  conv_lhs => rw [← State.judged_eq, State.graft_lane]

/-- The energies of a pass completed are the meter's recent ones (R113). -/
theorem State.judged_recent : ((s.judged i res).lane i.lane).meter.recent =
    some { mic := res.micEnergy, out := res.outEnergy, steps := lossSteps res.micEnergy res.outEnergy } := by
  rw [State.judged, State.guardStep_meter, State.meterStep_recent]

end

end Sys2Proof.Machine
end

section
/-! SUPPORT. The completion of a pass: the updates that land, and the frame that leaves the lane (R26, R29,
R68, R73). -/

set_option Elab.async false

namespace Sys2Proof.Machine

/-! ## The updates that land (R68 step 1) -/

/-- The updates written one after another. -/
def Store.land (st : Store) (l : LaneId) (us : List Update) : Store :=
  us.foldl (fun st u => st.writePart l u.ref u.position u.coefs) st

theorem Store.land_concat (st : Store) (l : LaneId) (us : List Update) (u : Update) :
    st.land l (us ++ [u]) = (st.land l us).writePart l u.ref u.position u.coefs :=
  List.foldl_concat ..

/-- What landing leaves alone: the map, the scrubber, and the partitions of other lanes. -/
theorem Store.land_frame (st : Store) (l : LaneId) (us : List Update) :
    (st.land l us).map = st.map ∧ (st.land l us).scrub = st.scrub
      ∧ ∀ p : PartId, (st.map[p]).ownedFrom l 0 = false → (st.land l us).coefs[p] = st.coefs[p] := by
  induction us using List.reverseRecOn with
  | nil => exact ⟨rfl, rfl, fun _ _ => rfl⟩
  | append_singleton us u ih =>
    obtain ⟨hmap, hscrub, hcoefs⟩ := ih
    rw [Store.land_concat]
    refine ⟨by rw [Store.writePart_map, hmap], by rw [Store.writePart_scrub, hscrub], fun p hp => ?_⟩
    rw [Store.writePart_coefs_ne _ _ _ _ _ _ (by rw [hmap]; exact hp), hcoefs p hp]

/-- A position that no update names reads as before. -/
theorem Store.readPart_land_ne (st : Store) (l : LaneId) (us : List Update) {r : RefId} {j : Nat}
    (h : ∀ u ∈ us, ¬(u.ref = r ∧ u.position = j)) :
    (st.land l us).readPart l r j = st.readPart l r j := by
  induction us using List.reverseRecOn with
  | nil => rfl
  | append_singleton us u ih =>
    obtain ⟨hus, hu⟩ := List.forall_mem_append.mp h
    have hne : ¬(l = l ∧ r = u.ref ∧ j = u.position) := fun hc =>
      hu u List.mem_cons_self ⟨hc.2.1.symm, hc.2.2.symm⟩
    rw [Store.land_concat, Store.readPart_writePart_ne _ hne, ih hus]

/-- A position that an update names reads as the update says, where the chain has it and the updates of
one position agree. -/
theorem Store.readPart_land (st : Store) (l : LaneId) {us : List Update} (new : RefId → Nat → Partition)
    (h : ∀ u ∈ us, u.coefs = new u.ref u.position) {r : RefId} {j : Nat}
    (hj : (st.partAt l r j).isSome) (hmem : ∃ u ∈ us, u.ref = r ∧ u.position = j) :
    (st.land l us).readPart l r j = new r j := by
  induction us using List.reverseRecOn with
  | nil => simp at hmem
  | append_singleton us u ih =>
    obtain ⟨hus, hu⟩ := List.forall_mem_append.mp h
    rw [Store.land_concat]
    by_cases hplace : u.ref = r ∧ u.position = j
    · obtain ⟨rfl, rfl⟩ := hplace
      rw [Store.readPart_writePart_self, hu u List.mem_cons_self]
      rwa [Store.partAt_congr (st.land_frame l us).1]
    · rw [Store.readPart_writePart_ne _ fun hc => hplace ⟨hc.2.1.symm, hc.2.2.symm⟩]
      refine ih hus ?_
      obtain ⟨v, hv, hvplace⟩ := hmem
      obtain hv | hv := List.mem_append.mp hv
      · exact ⟨v, hv, hvplace⟩
      · exact absurd (List.mem_singleton.mp hv ▸ hvplace) hplace

/-- The record of lane `l` and the coefficients written back. -/
def State.writeBack (s : State) (l : LaneId) (x : Lane) (st : Store) : State :=
  { s.setLane l x with store := st }

@[simp] theorem State.writeBack_lane (s : State) (l : LaneId) (x : Lane) (st : Store) :
    (s.writeBack l x st).lane l = x := State.lane_setLane_self ..

@[simp] theorem State.writeBack_store (s : State) (l : LaneId) (x : Lane) (st : Store) :
    (s.writeBack l x st).store = st := rfl

theorem State.writeBack_self (s : State) (l : LaneId) : s.writeBack l (s.lane l) s.store = s := by
  rw [State.writeBack, State.setLane_lane_self]

theorem State.writeBack_writeBack (s : State) (l : LaneId) (x y : Lane) (st st' : Store) :
    (s.writeBack l x st).writeBack l y st' = s.writeBack l y st' := by
  simp [State.writeBack, State.setLane]

theorem State.writeBack_setLane (s : State) (l : LaneId) (x y : Lane) (st : Store) :
    (s.writeBack l x st).setLane l y = s.writeBack l y st := by
  simp [State.writeBack, State.setLane]

/-- The record with the clamped coefficients of the updates `us` counted (R75). -/
def clampsCounted (x : Lane) (us : List Update) : Lane :=
  { x with counters := { x.counters with
      coeffSats := countUp x.counters.coeffSats (us.map fun u => u.sats).sum } }

theorem clampsCounted_nil (x : Lane) : clampsCounted x [] = x := by
  simp [clampsCounted]

theorem clampsCounted_cons (x : Lane) (u : Update) (us : List Update) :
    clampsCounted (clampsCounted x [u]) us = clampsCounted x (u :: us) := by
  simp [clampsCounted, countUp_countUp]

/-- The updates `us` written, and what they clamped counted (R68 step 1, R75). -/
def State.withUpdates (s : State) (l : LaneId) (us : List Update) : State :=
  s.writeBack l (clampsCounted (s.lane l) us) (s.store.land l us)

theorem State.withUpdates_nil (s : State) (l : LaneId) : s.withUpdates l [] = s := by
  rw [State.withUpdates, clampsCounted_nil]
  exact s.writeBack_self l

theorem State.withUpdates_cons (s : State) (l : LaneId) (u : Update) (us : List Update) :
    (s.withUpdates l [u]).withUpdates l us = s.withUpdates l (u :: us) := by
  simp only [State.withUpdates, State.writeBack_lane, State.writeBack_store, clampsCounted_cons,
    State.writeBack_writeBack]
  rfl

/-- Of a pass's updates those land whose chain adapted and has no SHIFT waiting (R68 step 1). -/
theorem State.landUpdates_eq (l : LaneId) (fz : Vector (Option Freeze) 3) (us : List Update) :
    ∀ s : State, s.landUpdates l fz us = s.withUpdates l (us.filter fun u => s.lands l fz u.ref) := by
  induction us with
  | nil => exact fun s => (s.withUpdates_nil l).symm
  | cons u us ih =>
    intro s
    rw [State.landUpdates, List.filter_cons]
    by_cases hu : s.lands l fz u.ref = true
    · rw [if_pos hu, if_pos hu, ← State.withUpdates_cons]
      exact ih (s.withUpdates l [u])
    · rw [if_neg hu, if_neg hu, ih]

/-- Every update of a pass is of a chain that adapted, and is the one of its position (R73, R75). -/
theorem PassInputs.of_mem_updates (i : PassInputs) (g : Nat) {u : Update}
    (hu : u ∈ (i.results g).updates) :
    (i.results g).freeze[u.ref] = some .adapting ∧ u = i.update i.errors u.ref u.position := by
  by_cases htrip : i.verdict i.errors = .trip
  · obtain ⟨hnone, -⟩ := i.results_trip g htrip
    rw [hnone] at hu
    exact absurd hu List.not_mem_nil
  · obtain ⟨hups, -, hfreeze, -⟩ := i.results_go g htrip
    rw [hups, i.updates_go, List.mem_filterMap] at hu
    obtain ⟨p, hp, hu⟩ := hu
    obtain ⟨r, hr, rfl⟩ := Option.map_eq_some_iff.mp hu
    obtain ⟨-, hadapts⟩ := List.mem_filter.mp (List.mem_of_mem_take hp)
    obtain ⟨q, hq, hadapting⟩ := (i.adapts_iff p).mp hadapts
    obtain rfl : q = r := Option.some.inj (hq.symm.trans hr)
    refine ⟨?_, rfl⟩
    change (i.results g).freeze[q] = some .adapting
    rw [hfreeze, i.freezes_getElem, if_pos (List.mem_of_getElem? hq), hadapting]
    rfl

end Sys2Proof.Machine
end

section
/-! SUPPORT. PASS_COMPLETE: the frame that leaves the lane, the record that the pass leaves, and the whole
next state (R26, R29, R38, R68, R82). -/

set_option Elab.async false

namespace Sys2Proof.Machine

/-! ## The frame that leaves the lane (R26, R29, R68 step 6) -/

/-- The record `y` differs from `x` by frames put in the output queue. -/
def OutputSent (x y : Lane) : Prop :=
  y = { x with output := y.output, counters := { x.counters with overruns := y.counters.overruns } }

theorem OutputSent.refl (x : Lane) : OutputSent x x := rfl

theorem OutputSent.trans {x y z : Lane} (h : OutputSent x y) (k : OutputSent y z) : OutputSent x z := by
  rw [OutputSent] at h k ⊢
  rw [h] at k
  exact k

/-- The fields that frames put in the output queue leave alone. -/
theorem OutputSent.fields {x y : Lane} (h : OutputSent x y) :
    y.state = x.state ∧ y.refs = x.refs ∧ y.tail = x.tail ∧ y.delays = x.delays ∧ y.input = x.input
      ∧ y.inFlight = x.inFlight ∧ y.cursor = x.cursor ∧ y.freeze = x.freeze ∧ y.lock = x.lock
      ∧ y.talk = x.talk ∧ y.meter = x.meter ∧ y.guard = x.guard
      ∧ y.counters.errorSats = x.counters.errorSats ∧ y.counters.coeffSats = x.counters.coeffSats := by
  rw [h]
  simp

theorem OutputSent.insertOutput (s : State) (l : LaneId) (o : OutFrame) :
    OutputSent (s.lane l) ((s.insertOutput l o).lane l) := by
  rw [State.insertOutput_lane]
  split <;> exact rfl

theorem OutputSent.passFrames (l : LaneId) (fs : List InFrame) :
    ∀ s : State, OutputSent (s.lane l) ((s.passFrames l fs).lane l) := by
  induction fs with
  | nil => exact fun s => .refl _
  | cons f fs ih =>
    intro s
    have passed : OutputSent (s.lane l) ((s.passFrame l f).lane l) := by
      rw [State.passFrame_lane]
      exact .insertOutput s l _
    rw [State.passFrames]
    exact passed.trans (ih (s.passFrame l f))

theorem CountsKept.passFrames {s : State} (l : LaneId) (fs : List InFrame) :
    ∀ {t : State}, CountsKept s t → CountsKept s (t.passFrames l fs) := by
  induction fs with
  | nil => exact fun h => h
  | cons f fs ih =>
    intro t h
    have inserted : CountsKept s (t.insertOutput l (passThrough f)) :=
      h.same (State.insertOutput_engine t l (passThrough f))
    rw [State.passFrames, State.passFrame]
    exact ih (inserted.handToTrackers l f allRefs)

/-- The lane passes its queued frames through when a pass of it completes (R29). -/
abbrev flushes (x : Lane) : Prop := x.state = .bypass ∨ x.state = .lockout

/-- The pass's frame enters the output queue, and a BYPASS or LOCKOUT lane passes its queued frames
through (R68 step 6). -/
def State.deliver (s : State) (l : LaneId) (o : OutFrame) : State :=
  if flushes (s.lane l) then
    ((s.insertOutput l o).setLane l { (s.insertOutput l o).lane l with input := [] }).passFrames l
      (s.lane l).input
  else s.insertOutput l o

section
variable (s : State) (l : LaneId) (o : OutFrame)

theorem State.outputStep_eq :
    s.outputStep l o = (s.setLane l { s.lane l with inFlight := none }).deliver l o := by
  have sent := OutputSent.insertOutput (s.setLane l { s.lane l with inFlight := none }) l o
  simp only [State.outputStep, State.deliver, State.flush, flushes]
  rw [congrArg Lane.state sent, congrArg Lane.input sent]

theorem State.deliver_eq_foldl : s.deliver l o =
    if flushes (s.lane l) then (s.lane l).input.foldl (fun v f => v.passFrame l f)
      ((s.insertOutput l o).setLane l { (s.insertOutput l o).lane l with input := [] })
    else s.insertOutput l o := by
  rw [State.deliver, State.passFrames_eq_foldl]

/-- What delivering a frame leaves alone. -/
theorem PassedThrough.deliver : PassedThrough l s (s.deliver l o) := by
  have inserted : PassedThrough l s (s.insertOutput l o) :=
    ⟨fun k hk => s.insertOutput_lane_ne hk o, by simp, by simp, by simp, by simp, [], by simp⟩
  rw [State.deliver]
  split
  · refine PassedThrough.passFrames _ ⟨fun k hk => ?_, inserted.refs, inserted.store,
      inserted.checkpoints, inserted.job, inserted.queue⟩
    rw [State.lane_setLane, if_neg hk, inserted.lane k hk]
  · exact inserted

theorem CountsKept.deliver : CountsKept s (s.deliver l o) := by
  have inserted : CountsKept s (s.insertOutput l o) :=
    (CountsKept.refl s).same (State.insertOutput_engine ..)
  rw [State.deliver]
  split
  · exact CountsKept.passFrames l _ inserted.same
  · exact inserted

/-- The record that delivering a frame leaves, but for its output queue and its overruns. -/
theorem OutputSent.deliver :
    OutputSent { s.lane l with input := if flushes (s.lane l) then [] else (s.lane l).input }
      ((s.deliver l o).lane l) := by
  have inserted := OutputSent.insertOutput s l o
  rw [State.deliver]
  split
  · refine OutputSent.trans ?_ (OutputSent.passFrames l _ _)
    rw [State.lane_setLane_self, OutputSent]
    conv_lhs => rw [inserted]
  · exact inserted

variable {s l o}

/-- The output queue of a lane that flushes (R26, R29). -/
theorem State.deliver_flushed (hst : flushes (s.lane l)) (hlen : (s.lane l).output.length ≤ 4) :
    (s.deliver l o).lane l =
      outputsRecord { s.lane l with input := [] } (o :: (s.lane l).input.map passThrough) := by
  have record := State.insertOutput_record hlen o
  rw [State.deliver, if_pos hst, State.passFrames_lane, State.lane_setLane_self, record]
  · exact outputsRecord_append { s.lane l with input := [] } [o] ((s.lane l).input.map passThrough)
  · rw [State.lane_setLane_self, record]
    exact (length_lastFour _).trans_le (Nat.min_le_left _ _)

theorem State.deliver_kept (hst : ¬flushes (s.lane l)) : s.deliver l o = s.insertOutput l o :=
  if_neg hst

end

/-! ## The record that a pass leaves (R68 steps 1 to 6) -/

/-- The record after step 2: the clamped coefficients of the updates `us` are counted, and the talk state is
the pass's (R68, R75, R88). -/
def talkedLane (x : Lane) (res : PassResults) (us : List Update) : Lane :=
  { clampsCounted x us with talk := { x.talk with
      state := res.talk, hangover := res.hangover, last := some res.detection } }

/-- The record after a pass with the results `res`, before its frame leaves: `x` is the record that the
completion finds, and `v` what the meter and the guard make of it; the updates `us` land. -/
def passedLane (x v : Lane) (res : PassResults) (freeze : Vector (Option Freeze) 3) (us : List Update) :
    Lane :=
  { judgedLane v (talkedLane x res us) with
    cursor := res.cursor, freeze := some freeze, inFlight := none
    counters := { (talkedLane x res us).counters with
      errorSats := countUp x.counters.errorSats res.errorSats } }

section
variable (x v : Lane) (res : PassResults) (freeze : Vector (Option Freeze) 3) (us : List Update)

theorem passedLane_output : (passedLane x v res freeze us).output = x.output := rfl

variable {x v} in
/-- The record by what the completion changes of what the meter and the guard have made. -/
theorem passedLane_eq (h : v = judgedLane v x) : passedLane x v res freeze us =
    { v with
      talk := { x.talk with state := res.talk, hangover := res.hangover, last := some res.detection }
      cursor := res.cursor, freeze := some freeze, inFlight := none
      counters := { x.counters with
        errorSats := countUp x.counters.errorSats res.errorSats
        coeffSats := countUp x.counters.coeffSats (us.map fun u => u.sats).sum } } := by
  rw [h]
  rfl

end

section
variable (u v : State) (l : LaneId) (res : PassResults)

/-- The updates of a pass that land: a SHIFT of their chain does not wait (R68 step 1). -/
def State.landing : List Update := res.updates.filter fun w => !u.shiftWaiting l w.ref

/-- What the completion of a pass in the state `u` leaves before the pass's frame leaves the lane, where `v`
is what the meter and the guard make of `u`. -/
def State.passed : State :=
  v.writeBack l
    (passedLane (u.lane l) (v.lane l) res (u.finalFreeze l res.freeze) (u.landing l res))
    (u.store.land l (u.landing l res))

theorem State.passed_lane : (u.passed v l res).lane l =
    passedLane (u.lane l) (v.lane l) res (u.finalFreeze l res.freeze) (u.landing l res) :=
  State.writeBack_lane ..

/-- What the completion of a pass leaves, but for the count of passes and the job. -/
def State.completed : State := (u.passed v l res).deliver l res.output

/-- The record that the pass leaves, but for the output queue and the overruns. -/
theorem State.completed_lane : OutputSent
    { passedLane (u.lane l) (v.lane l) res (u.finalFreeze l res.freeze) (u.landing l res) with
      input := if flushes (v.lane l) then [] else (u.lane l).input }
    ((u.completed v l res).lane l) := by
  have sent := OutputSent.deliver (u.passed v l res) l res.output
  rw [State.passed_lane] at sent
  exact sent

theorem State.completed_store : (u.completed v l res).store = u.store.land l (u.landing l res) :=
  (PassedThrough.deliver (u.passed v l res) l res.output).store

/-- The positions whose updates land read as the updates say, every other one as before (R68 step 1). -/
theorem State.completed_reads {new : RefId → Nat → Partition}
    (hnew : ∀ w ∈ u.landing l res, w.coefs = new w.ref w.position) :
    (∀ w ∈ u.landing l res, (u.store.partAt l w.ref w.position).isSome →
        (u.completed v l res).store.readPart l w.ref w.position = w.coefs)
      ∧ (∀ r j, (∀ w ∈ u.landing l res, ¬(w.ref = r ∧ w.position = j)) →
        (u.completed v l res).store.readPart l r j = u.store.readPart l r j)
      ∧ ∀ p : PartId, (u.store.map[p]).ownedFrom l 0 = false →
        (u.completed v l res).store.coefs[p] = u.store.coefs[p] := by
  obtain ⟨-, -, unowned⟩ := u.store.land_frame l (u.landing l res)
  rw [State.completed_store]
  refine ⟨fun w hw hpos => ?_, fun r j hnone => Store.readPart_land_ne _ _ _ hnone, unowned⟩
  rw [hnew w hw]
  exact u.store.readPart_land l new hnew hpos ⟨w, hw, rfl, rfl⟩

variable {u v l res} in
/-- The state before the pass's frame leaves, by what a state `t` holds of what the completion leaves. -/
theorem State.passed_eq (hv : v.lane l = judgedLane (v.lane l) (u.lane l)) {t : State}
    (hlane : t.lane l = (u.completed v l res).lane l) (hstore : t.store = (u.completed v l res).store) :
    u.passed v l res = { v.setLane l { v.lane l with
      talk := { (u.lane l).talk with state := res.talk, hangover := res.hangover, last := some res.detection }
      cursor := res.cursor, freeze := (t.lane l).freeze, inFlight := none
      counters := { (u.lane l).counters with
        errorSats := (t.lane l).counters.errorSats
        coeffSats := (t.lane l).counters.coeffSats } } with
      store := t.store } := by
  obtain ⟨-, -, -, -, -, -, -, hfreeze, -, -, -, -, herrors, hclamps⟩ := (u.completed_lane v l res).fields
  rw [hlane, hstore, hfreeze, herrors, hclamps, State.completed_store, State.passed, passedLane_eq _ _ _ hv]
  rfl

variable {v} in
/-- What the completion of a pass leaves alone or adds to, where the meter and the guard have left alone
all but what they act on. -/
theorem State.completed_frame (hv : v.graft l u = v) :
    (∀ k, k ≠ l → (u.completed v l res).lane k = u.lane k) ∧ (u.completed v l res).refs = u.refs
      ∧ (u.completed v l res).checkpoints = u.checkpoints
      ∧ (∃ more, (u.completed v l res).engine.queue = v.engine.queue ++ more)
      ∧ CountsKept u (u.completed v l res) := by
  have delivered := PassedThrough.deliver (u.passed v l res) l res.output
  have counts := CountsKept.deliver (u.passed v l res) l res.output
  have judged : CountsKept u v := by rw [← hv]; exact ⟨rfl, rfl⟩
  refine ⟨fun k hk => (delivered.lane k hk).trans ?_, delivered.refs.trans ?_, delivered.checkpoints.trans ?_,
    delivered.queue, counts.budget.trans judged.budget, counts.passes.trans judged.passes⟩
  · have others : v.lane k = u.lane k := by
      rw [← hv, State.graft]
      exact (State.lane_setLane ..).trans (if_neg hk)
    exact ((State.lane_setLane ..).trans (if_neg hk)).trans others
  · exact (congrArg State.refs hv).symm
  · exact (congrArg State.checkpoints hv).symm

/-- Of a lane that does not flush the pass's frame alone leaves (R26). -/
theorem State.completed_kept (hst : ¬flushes (v.lane l)) :
    u.completed v l res = (u.passed v l res).insertOutput l res.output := by
  rw [State.completed, State.deliver_kept]
  rw [State.passed_lane]
  exact hst

/-- The output queue of a lane that does not flush. -/
theorem State.completed_kept_lane (hst : ¬flushes (v.lane l)) :
    ((u.completed v l res).lane l).output =
        (if 4 ≤ (u.lane l).output.length then (u.lane l).output.drop 1 else (u.lane l).output)
          ++ [res.output]
      ∧ ((u.completed v l res).lane l).counters.overruns =
        if 4 ≤ (u.lane l).output.length then countUp (u.lane l).counters.overruns 1
          else (u.lane l).counters.overruns := by
  rw [u.completed_kept v l res hst, State.insertOutput_lane, State.passed_lane, passedLane_output]
  generalize u.lane l = x, v.lane l = y
  split <;> exact ⟨rfl, rfl⟩

variable {v} in
/-- What else a lane that does not flush leaves: no tracker is handed a frame. -/
theorem State.completed_kept_frame (hv : v.graft l u = v) (hst : ¬flushes (v.lane l)) :
    (u.completed v l res).engine.queue = v.engine.queue
      ∧ (u.completed v l res).realigns = u.realigns ∧ (u.completed v l res).trackers = u.trackers
      ∧ (u.completed v l res).ports =
        (if 4 ≤ (u.lane l).output.length then v.raise .outputOverrun l.val else v).ports := by
  rw [u.completed_kept v l res hst, State.insertOutput_engine, State.insertOutput_realigns,
    State.insertOutput_trackers, State.insertOutput_eq, State.passed_lane, passedLane_output]
  refine ⟨rfl, (congrArg State.realigns hv).symm, (congrArg State.trackers hv).symm, ?_⟩
  generalize ((u.passed v l res).insertOutput l res.output).lane l = y
  split <;> rfl

/-- The output queue of a lane that flushes. -/
theorem State.completed_flushed (hst : flushes (v.lane l)) (hlen : (u.lane l).output.length ≤ 4) :
    ((u.completed v l res).lane l).output =
        lastFour ((u.lane l).output ++ res.output :: (u.lane l).input.map passThrough)
      ∧ ((u.completed v l res).lane l).counters.overruns = countUp (u.lane l).counters.overruns
          (((u.lane l).output ++ res.output :: (u.lane l).input.map passThrough).length - 4) := by
  have record := u.passed_lane v l res
  have flushing : flushes ((u.passed v l res).lane l) := by
    rw [record]
    exact hst
  have fits : ((u.passed v l res).lane l).output.length ≤ 4 := by
    rw [record]
    exact hlen
  rw [State.completed, State.deliver_flushed flushing fits, record]
  generalize u.lane l = x, v.lane l = y
  exact ⟨rfl, rfl⟩

end

/-! ## PASS_COMPLETE (R68) -/

section
variable (u : State) (i : PassInputs)

theorem State.filter_lands (g : Nat) :
    ((i.results g).updates.filter fun w => u.lands i.lane (i.results g).freeze w.ref) =
      u.landing i.lane (i.results g) := by
  refine List.filter_congr fun w hw => ?_
  rw [State.lands, (i.of_mem_updates g hw).1]
  simp

variable {u} in
/-- Grafting on a state with one record and the store written back. -/
theorem State.graft_writeBack {l : LaneId} {y : Lane} (hy : judgedLane (u.lane l) y = y) (st : Store) :
    u.graft l (u.writeBack l y st) = u.writeBack l y st := by
  rw [State.graft, State.writeBack_lane, hy, State.writeBack_setLane]
  rfl

theorem State.graft_writeBack_setLane (v : State) (l : LaneId) (y z : Lane) (st : Store) :
    (v.graft l (u.writeBack l y st)).setLane l z = (v.graft l u).writeBack l z st := by
  simp [State.graft, State.writeBack, State.setLane]

/-- The completion of a pass, its parts in the order of R68: the meter and the guard find what they would
have found without the updates and the talk state. -/
theorem State.landResults_eq {res : PassResults}
    (hland : (res.updates.filter fun w => u.lands i.lane res.freeze w.ref) = u.landing i.lane res) :
    u.landResults i res = u.completed (u.judged i res) i.lane res := by
  have talked : (u.landUpdates i.lane res.freeze res.updates).talkStep i.lane res =
      u.writeBack i.lane (talkedLane (u.lane i.lane) res (u.landing i.lane res))
        (u.store.land i.lane (u.landing i.lane res)) := by
    rw [State.landUpdates_eq, hland, State.talkStep, State.withUpdates, State.writeBack_lane,
      State.writeBack_setLane]
    rfl
  have judged : ∀ st, (u.writeBack i.lane (talkedLane (u.lane i.lane) res (u.landing i.lane res)) st).judged
      i res = (u.judged i res).graft i.lane
        (u.writeBack i.lane (talkedLane (u.lane i.lane) res (u.landing i.lane res)) st) := fun st => by
    rw [← State.graft_judged, State.graft_writeBack rfl]
  have written : ∀ y z st, ((u.judged i res).graft i.lane (u.writeBack i.lane y st)).setLane i.lane z =
      (u.judged i res).writeBack i.lane z st := fun y z st => by
    rw [State.graft_writeBack_setLane, State.judged_eq]
  change ((((u.landUpdates i.lane res.freeze res.updates).talkStep i.lane res).judged i res).cursorStep
    i.lane res (u.finalFreeze i.lane res.freeze)).outputStep i.lane res.output = _
  rw [talked, judged, State.outputStep_eq, State.cursorStep, State.graft_lane, State.writeBack_lane, written,
    State.writeBack_lane, State.writeBack_setLane, State.completed, State.passed]
  rfl

variable (g : Nat)

/-- The energies of the pass's own results (R71). -/
theorem State.judged_energies : u.judged i (i.results g) =
    (u.meterStep i.lane i.record (i.record.state == .run) (i.results g).talk (energyOf i.frame.samples)
      (energyOf i.errors)).guardStep i.lane i.record.guard (i.results g).verdict := by
  simp only [State.judged, PassInputs.results, PassInputs.micEnergy, outEnergy, PassInputs.wasRun]

/-- The verdict of the pass's own results (R123). -/
theorem State.judged_results : u.judged i (i.results g) =
    (u.meterStep i.lane i.record (i.record.state == .run) (i.results g).talk (energyOf i.frame.samples)
        (energyOf i.errors)).guardStep i.lane i.record.guard
      (if i.record.state = .run then
        judge i.record.guard (i.results g).talk (energyOf i.frame.samples) (energyOf i.errors)
      else .unchanged) := by
  rw [State.judged_energies]
  simp only [PassInputs.results, i.verdict_eq]

theorem exec_passComplete {s : State} (hjob : s.beginEvent.engine.job = some (.pass i g)) :
    exec .passComplete s = .next (s.beginEvent.completePass i g) := by
  simp only [exec, execPassComplete, hjob]

theorem State.completePass_eq (hst : (u.lane i.lane).state ≠ .clearing) :
    u.completePass i g =
      (u.completed (u.judged i (i.results g)) i.lane (i.results g)).countPass.engineIdle := by
  simp only [State.completePass, if_neg hst, u.landResults_eq i (u.filter_lands i g)]

theorem State.completePass_clearing (hst : (u.lane i.lane).state = .clearing) :
    u.completePass i g =
      (u.setLane i.lane { u.lane i.lane with inFlight := none }).countPass.engineIdle := by
  simp only [State.completePass, if_pos hst]

end

/-- The recent energies are those of the pass (R113). -/
theorem State.judged_results_recent (u : State) (i : PassInputs) (g : Nat) :
    ((u.judged i (i.results g)).lane i.lane).meter.recent =
      some { mic := energyOf i.frame.samples, out := energyOf i.errors,
             steps := lossSteps (energyOf i.frame.samples) (energyOf i.errors) } := by
  rw [State.judged_recent]
  simp only [PassInputs.results, PassInputs.micEnergy, outEnergy]

/-- Settles O37: the completion is `State.completed`, the updates landed and the record passed, then the
frame delivered; the meter and the guard find what they would have found at its beginning. -/
theorem passCompletionLandsResults : Obligations.PassCompletionLandsResults := by
  refine ⟨fun s i g => ?_, fun s t i g => ?_, fun s i g => ?_⟩
  · intro u l res landing em eo verdict v hjob hst
    have hjudged : u.judged i res = v := u.judged_results i g
    have hv : v.graft l u = v := by
      rw [← hjudged]
      exact u.judged_eq i res
    have hrecent : (v.lane l).meter.recent = some { mic := em, out := eo, steps := lossSteps em eo } := by
      rw [← hjudged]
      exact u.judged_results_recent i g
    have hcompleted : u.completePass i g = (u.completed v l res).countPass.engineIdle := by
      rw [← hjudged]
      exact u.completePass_eq i g hst
    have kept : Keeps u (u.completed v l res).countPass.engineIdle := by
      rw [← hcompleted]
      exact (Keeps.refl u).completePass i g
    have taken : exec .passComplete s = .next (u.completed v l res).countPass.engineIdle :=
      (exec_passComplete i g hjob).trans (congrArg _ hcompleted)
    have sent := u.completed_lane v l res
    have hnew : ∀ w ∈ u.landing l res, w.coefs = (i.update i.errors w.ref w.position).coefs :=
      fun w hw => congrArg Update.coefs (i.of_mem_updates g (List.mem_of_mem_filter hw)).2
    obtain ⟨hread, hunread, hunowned⟩ := u.completed_reads v l res
      (new := fun r j => (i.update i.errors r j).coefs) hnew
    obtain ⟨hothers, hrefs, hcheckpoints, hqueue, counts⟩ := State.completed_frame u l res hv
    have hkept := u.completed_kept_lane v l res
    have hkeptframe := State.completed_kept_frame u l res hv
    have hflushed := u.completed_flushed v l res
    have hland : u.landing l res = landing := rfl
    rw [hland] at sent hread hunread
    clear_value landing v res u
    generalize u.completed v l res = c at *
    have runs : ∀ {x : Lane}, x.state = .run ∨ x.state = .tripped → ¬flushes x := by
      rintro x (hx | hx) <;> simp [hx]
    obtain ⟨hstate, hlanerefs, htail, hdelays, hinput, hflight, hcursor, hfreeze, hlock, htalk, hmeter,
      hguard, herrors, hclamps⟩ := sent.fields
    have state_eq : (c.lane l).state = (v.lane l).state := hstate
    refine ⟨_, taken, hread, hunread, htalk, hcursor, hfreeze,
      (congrArg Meter.recent hmeter).trans hrecent, hflight, hlanerefs, htail, hdelays, herrors, hclamps,
      fun hrun => ?_, fun hout => ?_, state_eq, hlock, hguard, hmeter, fun hrun => ?_, hqueue, rfl,
      counts.budget, ?_, hothers, kept.map, kept.scrub, hunowned, hrefs, hcheckpoints, kept.epoch⟩
    · have hnot : ¬flushes (v.lane l) := runs (state_eq ▸ hrun)
      obtain ⟨houtput, hover⟩ := hkept hnot
      exact ⟨hinput.trans (if_neg hnot), houtput, hover⟩
    · have hflush : flushes (v.lane l) := by
        rw [flushes, ← state_eq]
        exact hout
      exact ⟨hinput.trans (if_pos hflush), hflushed hflush⟩
    · have hnot : ¬flushes (v.lane l) := runs (state_eq ▸ hrun)
      exact hkeptframe hnot
    · have counted : (c.countPass.engineIdle).engine.passes = countUp c.engine.passes 1 := rfl
      rw [counted, counts.passes]
      rfl
  · intro u l res v insert pass hjob hst ht a z
    have hjudged : u.judged i res = v := u.judged_energies i g
    have hlane : v.lane l = judgedLane (v.lane l) (u.lane l) := by
      rw [← hjudged]
      exact u.judged_lane i res
    have hcompleted : t = (u.completed v l res).countPass.engineIdle := by
      rw [exec_passComplete i g hjob, State.completePass_eq u i g hst, hjudged] at ht
      exact (Host.Outcome.next.inj ht).symm
    have hv : v.graft l u = v := by
      rw [← hjudged]
      exact u.judged_eq i res
    obtain ⟨-, -, -, -, counts⟩ := State.completed_frame u l res hv
    clear ht hjudged
    clear_value v res u
    have left : t.lane l = (u.completed v l res).lane l ∧ t.store = (u.completed v l res).store := by
      rw [hcompleted]
      generalize u.completed v l res = c
      exact ⟨rfl, rfl⟩
    have hinsert : ∀ w o, insert w o = w.insertOutput l o := fun w o => rfl
    have hpass : pass = fun w f => w.passFrame l f := funext fun w => funext fun f =>
      (State.handToTrackers_eq_foldl l f allRefs (w.insertOutput l (passThrough f))).symm
    clear_value pass insert
    have ha : a = (u.passed v l res).insertOutput l res.output := by
      rw [State.passed_eq hlane left.1 left.2]
      exact hinsert _ res.output
    have hz : z = u.completed v l res := by
      rw [State.completed, State.deliver_eq_foldl, State.passed_lane, ← ha, ← hpass]
      rfl
    rw [hz, ← counts.passes]
    exact hcompleted
  · intro u l hjob hst
    rw [exec_passComplete i g hjob, State.completePass_clearing u i g hst]
    rfl

end Sys2Proof.Machine
end

section
/-! SUPPORT. The talk state of a frame (R86, R87); TALK STATUS, METER READ and GUARD STATUS (R92, R121,
R138). -/

-- One proof at a time: the whole text elaborated at once does not fit the check's memory limit.
set_option Elab.async false

namespace Sys2Proof.Machine

/-! ## The detection and the talk state (R86, R87) -/

theorem detect_farActive (t : Talk) (mp rp : Nat) :
    (detect t mp rp).farActive = true ↔ t.farFloor ≤ rp := decide_eq_true_iff

theorem detect_detected (t : Talk) (mp rp : Nat) :
    (detect t mp rp).detected = true ↔ t.farFloor ≤ rp ∧ t.threshold * rp ≤ 16 * mp := by
  simp only [detect, Bool.and_eq_true, decide_eq_true_iff]

theorem classify_detected (t : Talk) {d : Detection} (h : d.detected = true) :
    classify t d = (.double, t.hang) := if_pos h

theorem classify_held {t : Talk} {d : Detection} (h : d.detected = false) (hst : t.state = .double)
    (hover : 0 < t.hangover) : classify t d = (.double, t.hangover - 1) := by
  rw [classify, if_neg (Bool.eq_false_iff.mp h), if_pos ⟨hst, hover⟩]

/-- Neither a detection nor a hangover: the far end and the microphone's peak decide (R87). -/
theorem classify_released {t : Talk} {d : Detection} (h : d.detected = false)
    (hst : t.state ≠ .double ∨ t.hangover = 0) :
    classify t d =
      (if d.farActive then .far else if t.nearFloor ≤ d.micPeak then .near else .quiet, 0) := by
  have hover : ¬(t.state = .double ∧ 0 < t.hangover) := fun ⟨hdouble, hpos⟩ =>
    hst.elim (· hdouble) fun hzero => hpos.ne' hzero
  rw [classify, if_neg (Bool.eq_false_iff.mp h), if_neg hover, apply_ite (·, 0), apply_ite (·, 0)]

/-- Settles O43: the branches of `classify` on the verdicts of `detect`. -/
theorem talkStateTable : Obligations.TalkStateTable := by
  intro t mp rp d
  refine ⟨detect_farActive t mp rp, detect_detected t mp rp, classify_detected t, classify_held,
    fun hd hst => (classify_released hd hst).trans ?_⟩
  simp only [d, detect_farActive]
  rfl

/-! ## Reports of one lane (R92, R121, R138) -/

/-- A command that reads a bound lane: the words of its report, and the state before the command. -/
theorem takeCommand_reports {k : Kind} {p : Port} {m : Message} {s : State} {l : LaneId}
    (h : s.takes k p m) (hl : m.names l) (report : Lane → List Word) :
    takeCommand k p m s (fun u => onBoundLane m u fun l => answer (report (u.lane l)) u) =
      .next (if (s.beginEvent.lane l).state = .unbound then
          s.beginEvent.respond p (kindCode k) .wrongState []
        else s.beginEvent.respond p (kindCode k) .ok (report (s.beginEvent.lane l))) := by
  by_cases hu : (s.beginEvent.lane l).state = .unbound
  · rw [if_pos hu]
    exact takeCommand_onUnboundLane h hl hu
  · rw [if_neg hu]
    exact takeCommand_onBoundLane h hl hu rfl

/-- Settles O44: the model's reports carry a field that may be absent as `word`, `energies` and the marked
epoch of the last save say. -/
theorem laneReadersReport : Obligations.LaneReadersReport := by
  intro p m s l hl u x g word energies
  refine ⟨fun h => ?_, fun h => ?_, fun h => ?_⟩
  · exact takeCommand_reports h hl fun x => talkReport x.talk
  · have hreading : ∀ o, readingWords o = energies o := by
      intro o
      cases o <;> rfl
    refine (takeCommand_reports h hl meterReport).trans ?_
    simp only [meterReport, hreading]
    rfl
  · have hword : ∀ o, optWord o = word o := by
      intro o
      cases o <;> rfl
    refine (takeCommand_onLane h hl (a := answer (guardReport u l) u) rfl).trans ?_
    have hsave : optEpoch g.lastSave = match g.lastSave with
        | some e => [1, e]
        | none => [0, 65535] := by cases g.lastSave <;> rfl
    have hentry : ∀ refs e, checkpointWords refs e = [e.sequence, e.epoch, word e.steps]
        ++ (refs.map fun r => word e.delays[r])
        ++ BitVec.ofNat 16 e.span :: e.slots.map fun i => BitVec.ofNat 16 i.val := by
      intro refs e
      simp only [checkpointWords, hword]
      rfl
    by_cases hu : x.state = .unbound
    · rw [answer_payload, guardReport, if_pos hu, if_pos hu, hu]
      rfl
    · rw [answer_payload, guardReport, if_neg hu, if_neg hu, boundGuardReport, hword,
        funext (hentry _), hsave]
      simp only [List.append_assoc]
      rfl

end Sys2Proof.Machine
end

section
/-! SUPPORT. What committing a delay does, said once: the SHIFTs requested, in closed form, and the four
outcomes of R103 (R61, R103 to R107). -/

-- One proof at a time: the whole text elaborated at once does not fit the check's memory limit.
set_option Elab.async false

namespace Sys2Proof.Machine

/-! ## The SHIFTs that a commit requests (R61, R105) -/

theorem State.mem_lanesBoundTo (s : State) (r : RefId) (l : LaneId) :
    l ∈ s.lanesBoundTo r ↔ r ∈ boundRefs (s.lane l) := by
  simp [State.lanesBoundTo, allLanes]

theorem State.nodup_lanesBoundTo (s : State) (r : RefId) : (s.lanesBoundTo r).Nodup :=
  (List.nodup_finRange 16).filter _

theorem State.lanesBoundTo_eq_nil (s : State) (r : RefId) :
    s.lanesBoundTo r = [] ↔ ∀ l, r ∉ boundRefs (s.lane l) := by
  simp [List.eq_nil_iff_forall_not_mem, State.mem_lanesBoundTo]

/-- A SHIFT of `r` requested for lane `l` joins the queue: the lane is bound and none waits (R61). -/
abbrev State.acceptsShift (s : State) (r : RefId) (l : LaneId) : Prop :=
  (s.lane l).state ≠ .unbound ∧ s.shiftWaiting l r = false

/-- The SHIFT of lane `l` that a commit of the delay `d` requests (R105). -/
def State.shiftEntry (s : State) (r : RefId) (d : Nat) (l : LaneId) : MaintEntry :=
  { kind := .shift r ((d : Int) - (delayOf (s.lane l) r : Int)), lane := l }

/-- The SHIFTs that join the queue when a commit requests one for each of the lanes `ls`. -/
def State.shiftEntries (s : State) (r : RefId) (d : Nat) (ls : List LaneId) : List MaintEntry :=
  (ls.filter fun l => s.acceptsShift r l).map (s.shiftEntry r d)

/-- The state with entries joined to the queue's tail. -/
def State.queued (s : State) (es : List MaintEntry) : State :=
  { s with engine := { s.engine with queue := s.engine.queue ++ es } }

theorem State.queued_nil (s : State) : s.queued [] = s := by
  rw [State.queued, List.append_nil]

theorem State.queued_queued (s : State) (es fs : List MaintEntry) :
    (s.queued es).queued fs = s.queued (es ++ fs) := by
  simp [State.queued]

/-- A SHIFT of one lane that waits does not keep a SHIFT of another lane out. -/
theorem State.shiftEntries_queued {s : State} {r : RefId} {d : Nat} {l : LaneId} {ls : List LaneId}
    (h : l ∉ ls) : (s.queued [s.shiftEntry r d l]).shiftEntries r d ls = s.shiftEntries r d ls := by
  have same : ∀ k ∈ ls, (s.queued [s.shiftEntry r d l]).shiftWaiting k r = s.shiftWaiting k r := by
    intro k hk
    have hne : l ≠ k := fun heq => h (heq ▸ hk)
    simp [State.shiftWaiting, State.queued, State.shiftEntry, hne]
  refine congrArg (List.map _) (List.filter_congr fun k hk => ?_)
  simp only [State.acceptsShift, same k hk]
  rfl

/-- The requests for different lanes do not hinder each other. -/
theorem State.requestShifts_eq (r : RefId) (d : Nat) (ls : List LaneId) (hls : ls.Nodup) :
    ∀ s : State, s.requestShifts r d ls = s.queued (s.shiftEntries r d ls) := by
  induction ls with
  | nil => exact fun s => s.queued_nil.symm
  | cons l ls ih =>
    intro s
    obtain ⟨hl, hls⟩ := List.nodup_cons.mp hls
    rw [State.requestShifts, ih hls, State.request_shift]
    by_cases hgo : s.acceptsShift r l
    · have joined : s.shiftEntries r d (l :: ls) = s.shiftEntry r d l :: s.shiftEntries r d ls := by
        simp [State.shiftEntries, hgo]
      rw [if_neg (by simpa using hgo), joined]
      change (s.queued [s.shiftEntry r d l]).queued
        ((s.queued [s.shiftEntry r d l]).shiftEntries r d ls) = _
      rw [State.shiftEntries_queued hl, State.queued_queued]
      rfl
    · have dropped : s.shiftEntries r d (l :: ls) = s.shiftEntries r d ls := by
        simp [State.shiftEntries, hgo]
      rw [if_pos (by simpa [imp_iff_not_or] using hgo), dropped]

/-! ## The outcomes of a commit (R103 to R105) -/

/-- The realign record that a change of the target delay leaves (R105). -/
def Realign.retargeted (x : Realign) (d : Nat) (now : Epoch) : Realign :=
  { x with target := d, lastChange := some (directionOf x.target d, now) }

section
variable {s : State} {r : RefId} {d : Nat} {o : Origin}

/-- With no lane bound the change is made at once (R105). -/
theorem State.setTarget_atOnce (h : ∀ l, r ∉ boundRefs (s.lane l)) :
    s.setTarget r d =
      ((s.setRealign r ((s.realign r).retargeted d s.epoch)).raise .delaySet r.val, .atOnce) :=
  if_pos ((State.lanesBoundTo_eq_nil s r).mpr h)

/-- With a lane bound a SHIFT of every bound lane is requested (R105). -/
theorem State.setTarget_requested (h : ∃ l, r ∈ boundRefs (s.lane l)) :
    s.setTarget r d =
      ((s.setRealign r { (s.realign r).retargeted d s.epoch with state := .shifting }).queued
        (s.shiftEntries r d (s.lanesBoundTo r)), .requested) := by
  have bound : s.lanesBoundTo r ≠ [] := by
    rw [Ne, State.lanesBoundTo_eq_nil]
    simpa using h
  refine (if_neg bound).trans (congrArg (·, CommitOutcome.requested) ?_)
  exact State.requestShifts_eq r d _ (State.nodup_lanesBoundTo s r) _

/-- A change against the last one (R104). -/
theorem hunting_iff {x : Realign} (hd : d ≠ x.target) : hunting x d = true ↔
    ∃ dir e, x.lastChange = some (dir, e)
      ∧ ((dir = .up ∧ d < x.target) ∨ (dir = .down ∧ x.target < d)) := by
  simp only [hunting, directionOf]
  split
  · rename_i dir e hlast
    simp only [hlast]
    cases dir with
    | up =>
      simp
      omega
    | down =>
      simp
  · rename_i hnone
    simp [hnone]

theorem State.commit_shifting (h : (s.realign r).state = .shifting) :
    s.commit r d o = (s.setRealign r { s.realign r with proposal := some (d, o) }, .pending) := by
  simp only [State.commit, h]

theorem State.commit_idle (h : (s.realign r).state = .idle) :
    s.commit r d o = s.commitIdle r d o := by
  simp only [State.commit, h]

theorem State.commitIdle_unchanged (h : d = (s.realign r).target) :
    s.commitIdle r d o = (s, .unchanged) := if_pos h

theorem State.commitIdle_hunting (hd : d ≠ (s.realign r).target)
    (h : o = .tracker ∧ hunting (s.realign r) d = true) : s.commitIdle r d o =
      ((s.setRealign r { s.realign r with hold := 256 }).raise .delayHunt r.val, .unchanged) :=
  (if_neg hd).trans (if_pos h)

theorem State.commitIdle_passed (hd : d ≠ (s.realign r).target)
    (h : ¬(o = .tracker ∧ hunting (s.realign r) d = true)) :
    s.commitIdle r d o = s.setTarget r d :=
  (if_neg hd).trans (if_neg h)

end

/-! ## SHIFTs outstanding (R94, R111) -/

section
variable {s t : State} {r : RefId}

/-- With no SHIFT in flight those that wait are outstanding. -/
theorem State.shiftsOutstanding_eq_zero :
    s.shiftsOutstanding r = 0 ↔ (∀ e ∈ s.engine.queue, e.isShiftOf r = false) ∧ s.shiftInFlight r = false := by
  simp [State.shiftsOutstanding]

theorem State.endRealignIfDone_going
    (h : (s.realign r).state = .idle ∨ 0 < s.shiftsOutstanding r) : s.endRealignIfDone r = s := by
  refine if_neg ?_
  obtain hidle | hout := h
  · simp [hidle]
  · simp [hout.ne']

/-- The realign at its end, before a pending proposal is committed: IDLE, and DELAY_SET raised (R107). -/
def State.realignEnded (s : State) (r : RefId) : State :=
  (s.setRealign r { s.realign r with state := .idle, proposal := none }).raise .delaySet r.val

theorem State.realignEnded_realign (s : State) (r : RefId) :
    (s.realignEnded r).realign r = { s.realign r with state := .idle, proposal := none } := by
  rw [State.realignEnded, State.raise_realign, State.realign_setRealign_self]

section
variable (hst : (s.realign r).state = .shifting) (h : s.shiftsOutstanding r = 0)
include hst h

theorem State.endRealignIfDone_none (hp : (s.realign r).proposal = none) :
    s.endRealignIfDone r = s.realignEnded r := by
  refine (if_pos ⟨hst, h⟩).trans ?_
  simp only [State.endRealign, hp]
  rfl

theorem State.endRealignIfDone_pending {d : Nat} {o : Origin} (hp : (s.realign r).proposal = some (d, o)) :
    s.endRealignIfDone r = ((s.realignEnded r).commitIdle r d o).1 := by
  refine (if_pos ⟨hst, h⟩).trans ?_
  simp only [State.endRealign, hp]
  rfl

end

end

end Sys2Proof.Machine
end

section
/-! SUPPORT. SET DELAY and what a commit does, of either origin (R103 to R105). -/

set_option Elab.async false

namespace Sys2Proof.Machine

/-- The SHIFTs of a commit, one for each bound lane that has none of the reference waiting. -/
theorem State.shiftEntries_lanesBoundTo (s : State) (r : RefId) (d : Nat) :
    s.shiftEntries r d (s.lanesBoundTo r) =
      ((List.finRange 16).filter fun l : LaneId => r ∈ boundRefs (s.lane l)
          ∧ (s.lane l).state ≠ LaneState.unbound
          ∧ ∀ e ∈ s.engine.queue, e.lane = l → e.isShiftOf r = false).map fun l : LaneId =>
        ({ kind := .shift r ((d : Int) - ((s.lane l).delays[r]).getD 0), lane := l } : MaintEntry) := by
  rw [State.shiftEntries, State.lanesBoundTo, List.filter_filter]
  refine congrArg (List.map _) (List.filter_congr fun l _ => ?_)
  simp [State.acceptsShift, State.shiftWaiting, Bool.and_comm]

/-- SET DELAY answers with the outcome of its commit (R103). -/
theorem exec_setDelay {m : Message} {s : State} {r : RefId} (h : s.takes .setDelay .portS m)
    (hr : m.namesRef r) {v : State} {c : CommitOutcome}
    (hc : s.beginEvent.commit r (tuned m 0 0 1023) .portS = (v, c)) :
    exec (.setDelay .portS m) s = .next (v.respond .portS 0x62
      (if (argWord m 0).toInt = tuned m 0 0 1023 then outcomeStatus c else .clamped)
      [outcomeCode c, wordOf (v.realign r).target]) := by
  have hstatus : (if clamped m 0 0 1023 then Status.clamped else outcomeStatus c) =
      if (argWord m 0).toInt = tuned m 0 0 1023 then outcomeStatus c else .clamped := by
    by_cases hv : (argWord m 0).toInt = tuned m 0 0 1023 <;> simp [clamped, argInt, hv]
  refine (takeCommand_onRef h hr rfl).trans ?_
  simp only [setDelayReply, hc, hstatus]
  rfl

/-- Settles O50: each clause is one outcome of the commit. -/
theorem setDelayTable : Obligations.SetDelayTable := by
  refine ⟨fun m s r h hr => ?_, fun s r d o => ?_⟩
  · intro u x d status change
    have passes : ¬(Origin.portS = .tracker ∧ hunting x d = true) := fun hc => nomatch hc.1
    have answered : ∀ {v c}, u.commit r d .portS = (v, c) → exec (.setDelay .portS m) s =
        .next (v.respond .portS 0x62 (status (outcomeStatus c)) [outcomeCode c, wordOf (v.realign r).target]) :=
      exec_setDelay h hr
    clear_value d status u
    refine ⟨fun hst => ?_, fun hst hd => ?_, fun hst hd hnone => ?_, fun hst hd hbound => ?_⟩
    · refine (answered (State.commit_shifting hst)).trans ?_
      rw [State.realign_setRealign_self]
      rfl
    · exact (answered ((State.commit_idle hst).trans (State.commitIdle_unchanged hd))).trans rfl
    · refine (answered ((State.commit_idle hst).trans ((State.commitIdle_passed hd passes).trans
        (State.setTarget_atOnce hnone)))).trans ?_
      rw [State.raise_realign, State.realign_setRealign_self]
      rfl
    · refine (answered ((State.commit_idle hst).trans ((State.commitIdle_passed hd passes).trans
        (State.setTarget_requested hbound)))).trans ?_
      have target : ((u.setRealign r { x.retargeted d u.epoch with state := .shifting }).queued
          (u.shiftEntries r d (u.lanesBoundTo r))).realign r =
            { x.retargeted d u.epoch with state := .shifting } := State.realign_setRealign_self ..
      rw [target, State.shiftEntries_lanesBoundTo]
      rfl
  · intro x s' x' hunts
    have hunts_iff : d ≠ x.target → (hunts ↔ o = .tracker ∧ hunting x d = true) := fun hd =>
      and_congr_right fun _ => (hunting_iff hd).symm
    have idle : x.state = .idle → s' = (s.commitIdle r d o).1 := fun hst =>
      congrArg Prod.fst (State.commit_idle hst)
    refine ⟨fun hst => congrArg Prod.fst (State.commit_shifting hst), fun hst hd => ?_, fun hst hh => ?_,
      fun hst hd hh hnone => ?_, fun hst hd hh hbound => ?_⟩
    · exact (idle hst).trans (congrArg Prod.fst (State.commitIdle_unchanged hd))
    · have hd : d ≠ x.target := by
        obtain ⟨-, -, -, -, ⟨-, hlt⟩ | ⟨-, hlt⟩⟩ := hh
        · exact hlt.ne
        · exact hlt.ne'
      exact (idle hst).trans (congrArg Prod.fst (State.commitIdle_hunting hd ((hunts_iff hd).mp hh)))
    · exact (idle hst).trans (congrArg Prod.fst ((State.commitIdle_passed hd
        (mt (hunts_iff hd).mpr hh)).trans (State.setTarget_atOnce hnone)))
    · refine (idle hst).trans ((congrArg Prod.fst ((State.commitIdle_passed hd
        (mt (hunts_iff hd).mpr hh)).trans (State.setTarget_requested hbound))).trans ?_)
      rw [State.shiftEntries_lanesBoundTo]
      rfl

end Sys2Proof.Machine
end

section
/-! SUPPORT. The tracker's scans of reference frames and of pilot frames, and its proposals (R96 to R98,
R101). -/

set_option Elab.async false

namespace Sys2Proof.Machine

/-! ## The first sample that satisfies a test -/

section
variable {f : Frame} {p : Fin 128 → Sample → Bool}

theorem firstSample_of_first {i : Fin 128} (hi : p i f[i] = true) (h : ∀ j, j < i → p j f[j] = false) :
    firstSample f p = some i := by
  refine List.find?_eq_some_iff_getElem.mpr ⟨hi, i.val, by simp, by simp, fun j hj => ?_⟩
  have hfirst := h ⟨j, hj.trans i.isLt⟩ hj
  simpa using hfirst

theorem firstSample_of_none (h : ∀ i, p i f[i] = false) : firstSample f p = none :=
  List.find?_eq_none.mpr fun i _ => Bool.eq_false_iff.mp (h i)

end

/-- A sample within a frame has a non-negative offset. -/
theorem sampleIndex_natCast (e : Epoch) (i : Nat) :
    sampleIndex e i = BitVec.ofNat 23 (128 * e.toNat + i) := by
  rw [sampleIndex, ← BitVec.ofInt_natCast]
  simp

/-! ## Reference frames (R96, R97) -/

/-- Settles O48: DISARMED the tracker counts, and ARMED it scans for the first loud sample. -/
theorem onsetTable : Obligations.OnsetTable := by
  intro t e f peak n loud
  refine ⟨fun hst => ?_, fun hst hloud => ?_, fun hst hquiet => ?_, fun hst i hi hfirst => ?_,
    fun hst hnone => ?_⟩
  · obtain hst | hst := hst <;> simp only [trackReference, hst]
  · simp only [trackReference, hst, countQuiet, if_neg (not_lt.mpr hloud)]
  · simp only [trackReference, hst, countQuiet, if_pos hquiet]
    split
    · rfl
    · rw [← hst]
  · have scanned : (firstSample f fun _ x => decide (t.refLevel ≤ x.toInt.natAbs)) = some i :=
      firstSample_of_first (decide_eq_true hi) fun j hj => decide_eq_false (hfirst j hj)
    simp only [trackReference, hst, scanReference, scanned, sampleIndex_natCast]
  · have scanned : (firstSample f fun _ x => decide (t.refLevel ≤ x.toInt.natAbs)) = none :=
      firstSample_of_none fun i => decide_eq_false (hnone i)
    simp only [trackReference, hst, scanReference, scanned]
    rfl

/-! ## Proposals (R101) -/

/-- Three lags in ascending order give their largest, their smallest and their median. -/
theorem median3_of_perm {a b c low mid high : Nat} (h : [a, b, c].Perm [low, mid, high])
    (hlow : low ≤ mid) (hhigh : mid ≤ high) :
    max3 a b c = high ∧ min3 a b c = low ∧ median3 a b c = mid := by
  have within : ∀ x ∈ [a, b, c], low ≤ x ∧ x ≤ high := by
    intro x hx
    obtain rfl | rfl | rfl : x = low ∨ x = mid ∨ x = high := by simpa using h.mem_iff.mp hx
    · exact ⟨le_refl _, hlow.trans hhigh⟩
    · exact ⟨hlow, hhigh⟩
    · exact ⟨hlow.trans hhigh, le_refl _⟩
  have reached : ∀ x ∈ [low, mid, high], x = a ∨ x = b ∨ x = c := fun x hx => by
    simpa using h.mem_iff.mpr hx
  have ha := within a (by simp)
  have hb := within b (by simp)
  have hc := within c (by simp)
  have hmin := reached low (by simp)
  have hmax := reached high (by simp)
  have hsum : a + b + c = low + mid + high := by
    simpa [Nat.add_assoc] using h.sum_eq
  have hthree : max3 a b c = high ∧ min3 a b c = low := by
    simp only [max3, min3]
    omega
  refine ⟨hthree.1, hthree.2, ?_⟩
  rw [median3, hthree.1, hthree.2]
  omega

theorem proposalOf_few {t : Tracker} (h : t.lags.length < 3) : proposalOf t = none := by
  rw [proposalOf]
  split
  · rename_i c b a older hlags
    have hlen := congrArg List.length hlags
    simp only [List.length_reverse, List.length_cons] at hlen
    omega
  · rfl

theorem proposalOf_newest {t : Tracker} {older : List Nat} {a b c : Nat} (h : t.lags = older ++ [a, b, c]) :
    proposalOf t = if max3 a b c - min3 a b c ≤ t.tolerance then
      some (min 1023 (median3 a b c - t.guard)) else none := by
  simp [proposalOf, h]

theorem proposalOf_le {t : Tracker} {d : Nat} (h : proposalOf t = some d) : d ≤ 1023 := by
  rw [proposalOf] at h
  split at h
  · split at h
    · cases h
      exact Nat.min_le_left _ _
    · cases h
  · cases h

theorem State.propose_none {s : State} {r : RefId} (h : proposalOf (s.tracker r) = none) :
    s.propose r = s := by
  simp only [State.propose, h]

theorem State.propose_some {s : State} {r : RefId} {d : Nat} (h : proposalOf (s.tracker r) = some d) :
    s.propose r = if (s.tracker r).tolerance < max d (s.realign r).target - min d (s.realign r).target
        ∧ (s.realign r).hold = 0 then (s.commit r d .tracker).1 else s := by
  have apart : ((d : Int) - ((s.realign r).target : Int)).natAbs =
      max d (s.realign r).target - min d (s.realign r).target := by omega
  simp only [State.propose, h, apart]

/-- Proposing leaves every tracker as it is. -/
theorem State.propose_tracker (s : State) (r q : RefId) : (s.propose r).tracker q = s.tracker q :=
  (Realigned.propose (T := fun _ => False) (R := fun _ => True) (Q := fun _ => True) (.refl s) trivial
    trivial).tracker q id

/-! ## Pilot frames (R98) -/

section
variable {s : State} {r : RefId} {o : Onset} (hst : (s.tracker r).state = .opened)
  (ho : (s.tracker r).onset = some o) (f : Epoch) (x : Frame)
include hst ho

/-- A frame before the record's epoch is ignored. -/
theorem State.trackMicrophone_before (h : isAfter o.epoch f = true) : s.trackMicrophone r f x = s := by
  simp only [State.trackMicrophone, hst, ho, if_pos h]

theorem State.trackMicrophone_found (h : isAfter o.epoch f = false) {lag : Nat}
    (hscan : scanMicrophone (s.tracker r) o f x = .found lag) : s.trackMicrophone r f x =
      (s.setTracker r { disarm (s.tracker r) with
        lags := pushLag (s.tracker r).lags lag
        matchCount := countUp (s.tracker r).matchCount 1 }).propose r := by
  simp only [State.trackMicrophone, hst, ho, h, hscan]
  rfl

theorem State.trackMicrophone_missed (h : isAfter o.epoch f = false)
    (hscan : scanMicrophone (s.tracker r) o f x = .missed) : s.trackMicrophone r f x =
      s.setTracker r { disarm (s.tracker r) with missCount := countUp (s.tracker r).missCount 1 } := by
  simp only [State.trackMicrophone, hst, ho, h, hscan]
  rfl

theorem State.trackMicrophone_goOn (h : isAfter o.epoch f = false)
    (hscan : scanMicrophone (s.tracker r) o f x = .goOn) : s.trackMicrophone r f x = s := by
  simp only [State.trackMicrophone, hst, ho, h, hscan]
  rfl

end

/-- Sample `j` of a pilot frame is the microphone onset that a record waits for (R98). -/
abbrev isOnset (t : Tracker) (o : Onset) (f : Epoch) (x : Frame) (j : Fin 128) : Prop :=
  0 ≤ lagOf o f j.val ∧ lagOf o f j.val ≤ 1151 ∧ t.micLevel ≤ (x[j]).toInt.natAbs

section
variable {t : Tracker} {o : Onset} {f : Epoch} {x : Frame}

theorem scanMicrophone_found {j : Fin 128} (hj : isOnset t o f x j)
    (hfirst : ∀ k, k < j → ¬isOnset t o f x k) :
    scanMicrophone t o f x = .found (lagOf o f j.val).toNat := by
  have scanned : (firstSample x fun j v =>
      decide (0 ≤ lagOf o f j.val ∧ lagOf o f j.val ≤ 1151 ∧ t.micLevel ≤ v.toInt.natAbs)) = some j :=
    firstSample_of_first (decide_eq_true hj) fun k hk => decide_eq_false (hfirst k hk)
  simp only [scanMicrophone, scanned]

theorem scanMicrophone_none (h : ∀ j, ¬isOnset t o f x j) :
    scanMicrophone t o f x = if 1152 ≤ lagOf o f 127 then .missed else .goOn := by
  have scanned : (firstSample x fun j v =>
      decide (0 ≤ lagOf o f j.val ∧ lagOf o f j.val ≤ 1151 ∧ t.micLevel ≤ v.toInt.natAbs)) = none :=
    firstSample_of_none fun j => decide_eq_false (h j)
  simp only [scanMicrophone, scanned]

end

/-- Settles O49: the outcomes of the scan, and what a list of lags proposes. -/
theorem pilotScanTable : Obligations.PilotScanTable := by
  refine ⟨fun s r f x h => State.trackMicrophone_of_not_opened h f x, fun s r f x o => ?_, fun s r => ?_⟩
  · intro t lag hits closed hst ho
    have hlag : ∀ j : Fin 128, lagOf o f j.val = lag j := fun j => by
      rw [lagOf, sampleIndex_natCast]
    have hhits : ∀ j, isOnset t o f x j ↔ hits j := fun j => by
      rw [isOnset, hlag]
    refine ⟨State.trackMicrophone_before hst ho f x, fun hafter j hj hfirst => ?_, fun hafter hnone => ?_⟩
    · have found := State.trackMicrophone_found hst ho f x hafter
        (scanMicrophone_found ((hhits j).mpr hj) fun k hk => mt (hhits k).mp (hfirst k hk))
      have record : (s.trackMicrophone r f x).tracker r = { closed with
          lags := (if 4 ≤ t.lags.length then t.lags.drop 1 else t.lags) ++ [(lag j).toNat]
          matchCount := BitVec.ofNat 16 (min 65535 (t.matchCount.toNat + 1)) } := by
        rw [found, State.propose_tracker, State.tracker_setTracker_self, hlag]
        rfl
      refine ⟨record, ?_⟩
      rw [record, found, hlag]
      rfl
    · have scanned := scanMicrophone_none fun j => mt (hhits j).mp (hnone j)
      rw [show lagOf o f 127 = lag 127 from hlag 127] at scanned
      split
      · rename_i hpast
        exact State.trackMicrophone_missed hst ho f x hafter (scanned.trans (if_pos hpast))
      · rename_i hgo
        exact State.trackMicrophone_goOn hst ho f x hafter (scanned.trans (if_neg hgo))
  · intro t D
    refine ⟨fun hfew => State.propose_none (proposalOf_few hfew),
      fun older a b c low mid high hlags hperm hlow hhigh => ?_⟩
    intro delay
    obtain ⟨hmax, hmin, hmid⟩ := median3_of_perm hperm hlow hhigh
    have proposed := proposalOf_newest hlags
    rw [hmax, hmin, hmid] at proposed
    by_cases hagree : high - low ≤ t.tolerance
    · rw [State.propose_some (proposed.trans (if_pos hagree))]
      simp only [hagree, true_and]
      rfl
    · rw [State.propose_none (proposed.trans (if_neg hagree)), if_neg fun h => hagree h.1]

end Sys2Proof.Machine
end

section
/-! SUPPORT. TRACKER CONFIG, TRACKER CLEAR and TRACKER STATUS (R109 to R111). -/

set_option Elab.async false

namespace Sys2Proof.Machine

section
variable {m : Message} {s : State} {r : RefId}

theorem exec_trackerConfig_refused (h : s.takes .trackerConfig .portS m) (hr : m.namesRef r)
    (hbad : 2 ≤ argNat m 0 ∨ 16 ≤ argNat m 1) :
    exec (.trackerConfig .portS m) s = .next (s.beginEvent.respond .portS 0x60 .badArg []) := by
  refine takeCommand_onRef h hr (a := refuse .badArg s.beginEvent) ?_
  obtain henable | hpilot := hbad
  · simp only [flagArg_none henable]
  · simp only [laneArg_none hpilot]
    split
    · rename_i hnone
      cases hnone
    · rfl

theorem exec_trackerConfig_stored (h : s.takes .trackerConfig .portS m) (hr : m.namesRef r)
    {pilot : LaneId} (henable : argNat m 0 ≤ 1) (hpilot : argNat m 1 = pilot.val) {t : Tracker}
    (ht : configureTracker (s.beginEvent.tracker r) m (decide (argNat m 0 = 1)) pilot = t) :
    exec (.trackerConfig .portS m) s = .next ((s.beginEvent.setTracker r t).respond .portS 0x60
      (if trackerClamped m then .clamped else .ok) (trackerParameters t)) := by
  refine takeCommand_onRef h hr
    (a := configured (trackerClamped m) (trackerParameters t) (s.beginEvent.setTracker r t)) ?_
  simp only [flagArg_le henable, laneArg_val hpilot, ht]

theorem exec_trackerClear (h : s.takes .trackerClear .portS m) (hr : m.namesRef r) :
    exec (.trackerClear .portS m) s = .next ((s.beginEvent.setTracker r
      (clearTracker (s.beginEvent.tracker r))).respond .portS 0x61 .ok []) :=
  takeCommand_onRef h hr (a := answer [] (s.beginEvent.setTracker r
    (clearTracker (s.beginEvent.tracker r)))) rfl

theorem exec_trackerStatus {p : Port} (h : s.takes .trackerStatus p m) (hr : m.namesRef r) :
    exec (.trackerStatus p m) s =
      .next (s.beginEvent.respond p 0x63 .ok (trackerReport s.beginEvent r)) :=
  takeCommand_onRef h hr (a := answer (trackerReport s.beginEvent r) s.beginEvent) rfl

end

/-- The tracker starts afresh, DISARMED or OFF: the enable is turned on or off, or the pilot lane of an
enabled tracker changes (R109). -/
abbrev restarts (t : Tracker) (enable : Bool) (pilot : LaneId) : Prop :=
  (t.enabled = false ∧ enable = true) ∨ (t.enabled = true ∧ (enable = false ∨ pilot ≠ t.pilot))

theorem retarget_restarts {t : Tracker} {enable : Bool} {pilot : LaneId}
    (h : restarts t enable pilot) : retarget t enable pilot =
      { t with state := if enable then .disarmed else .off, quietCount := 0, onset := none } := by
  obtain ⟨ht, rfl⟩ | ⟨ht, rfl | hp⟩ := h
  · simp [retarget, ht, disarm]
  · simp [retarget, ht, disarm]
  · cases enable <;> simp [retarget, ht, hp, disarm]

theorem retarget_stays {t : Tracker} {enable : Bool} {pilot : LaneId}
    (h : ¬restarts t enable pilot) : retarget t enable pilot = t := by
  cases ht : t.enabled <;> cases enable <;> simp_all [retarget, restarts]

/-- A flag stored is the word that carried it. -/
theorem flagWord_argNat {m : Message} {n : Nat} (h : argNat m n ≤ 1) :
    flagWord (decide (argNat m n = 1)) = argWord m n := by
  rw [← wordOf_argNat]
  obtain hn | hn : argNat m n = 0 ∨ argNat m n = 1 := by omega
  · rw [hn]
    rfl
  · rw [hn]
    rfl

/-- Settles O51: the answers by the operands, and the report word by word. -/
theorem trackerCommandsTable : Obligations.TrackerCommandsTable := by
  refine ⟨fun m s r hr => ?_, fun p m s r h hr => ?_⟩
  · intro u t v kept
    refine ⟨fun h hbad => exec_trackerConfig_refused h hr hbad, fun h pilot henable hpilot => ?_,
      fun h => exec_trackerClear h hr⟩
    intro restart
    have hrestart : restarts t (decide (argNat m 0 = 1)) pilot ↔ restart := by
      have hzero : argNat m 0 = 0 ↔ ¬argNat m 0 = 1 := by omega
      simp only [restarts, restart, decide_eq_true_eq, decide_eq_false_iff_not, hzero]
    have hclamped : ∀ n lo hi : Nat, lo ≤ hi → clamped m n lo hi = !kept n lo hi :=
      fun n lo hi hle => clamped_eq m n lo hi hle
    have hstatus : (if trackerClamped m then Status.clamped else .ok) =
        if kept 2 1 32767 && kept 3 0 32767 && kept 4 1 15 && kept 5 1 32767 && kept 6 0 63
          && kept 7 0 127 then .ok else .clamped := by
      have changed : trackerClamped m = !(kept 2 1 32767 && kept 3 0 32767 && kept 4 1 15
          && kept 5 1 32767 && kept 6 0 63 && kept 7 0 127) := by
        simp only [trackerClamped, hclamped _ _ _ (by decide : 1 ≤ 32767),
          hclamped _ _ _ (by decide : 0 ≤ 32767), hclamped _ _ _ (by decide : 1 ≤ 15),
          hclamped _ _ _ (by decide : 0 ≤ 63), hclamped _ _ _ (by decide : 0 ≤ 127), Bool.not_and]
        rfl
      rw [changed]
      generalize (kept 2 1 32767 && kept 3 0 32767 && kept 4 1 15 && kept 5 1 32767 && kept 6 0 63
        && kept 7 0 127) = b
      cases b <;> rfl
    have configured : configureTracker t m (decide (argNat m 0 = 1)) pilot = { t with
        enabled := decide (argNat m 0 = 1), pilot := pilot, refLevel := v 2 1 32767
        quietLevel := v 3 0 32767, quietNeed := v 4 1 15, micLevel := v 5 1 32767
        tolerance := v 6 0 63, guard := v 7 0 127
        state := if restart then (if argNat m 0 = 1 then .disarmed else .off) else t.state
        quietCount := if restart then 0 else t.quietCount
        onset := if restart then none else t.onset } := by
      rw [configureTracker]
      by_cases hre : restart
      · rw [retarget_restarts (hrestart.mpr hre), if_pos hre, if_pos hre, if_pos hre]
        by_cases hon : argNat m 0 = 1
        · simp only [hon]
          rfl
        · simp only [hon]
          rfl
      · rw [retarget_stays (mt hrestart.mp hre), if_neg hre, if_neg hre, if_neg hre]
        rfl
    have parameters : trackerParameters (configureTracker t m (decide (argNat m 0 = 1)) pilot) =
        [argWord m 0, argWord m 1, BitVec.ofNat 16 (v 2 1 32767), BitVec.ofNat 16 (v 3 0 32767),
          BitVec.ofNat 16 (v 4 1 15), BitVec.ofNat 16 (v 5 1 32767), BitVec.ofNat 16 (v 6 0 63),
          BitVec.ofNat 16 (v 7 0 127)] := by
      rw [← flagWord_argNat henable, ← wordOf_argNat m 1, hpilot]
      rfl
    refine (exec_trackerConfig_stored h hr henable hpilot rfl).trans ?_
    rw [hstatus, parameters, configured]
  · intro u t x
    refine (exec_trackerStatus h hr).trans ?_
    refine congrArg (fun ws => Host.Outcome.next (u.respond p 0x63 .ok ws)) ?_
    have hstate : trackerCode t.state =
        match t.state with | .off => 0 | .disarmed => 1 | .armed => 2 | .opened => 3 := by
      cases t.state <;> rfl
    have honset : (presentWords 3 (t.onset.map fun o => indexWords o.index ++ [o.epoch])) =
        match t.onset with
        | some o => [1, BitVec.ofNat 16 (o.index.toNat / 65536), BitVec.ofNat 16 o.index.toNat, o.epoch]
        | none => [0, 65535, 65535, 65535] := by
      cases t.onset <;> rfl
    have hrealign : realignCode x.state = match x.state with | .idle => 0 | .shifting => 1 := by
      cases x.state <;> rfl
    have hproposal : proposalWords x.proposal =
        match x.proposal with
        | some (d, .tracker) => [BitVec.ofNat 16 d, 0]
        | some (d, .portS) => [BitVec.ofNat 16 d, 1]
        | none => [65535, 65535] := by
      rcases x.proposal with _ | ⟨d, _ | _⟩ <;> rfl
    have hchange : presentWords 2 (x.lastChange.map fun c => [directionCode c.1, c.2]) =
        match x.lastChange with
        | some (.up, e) => [1, 0, e]
        | some (.down, e) => [1, 1, e]
        | none => [0, 65535, 65535] := by
      rcases x.lastChange with _ | ⟨_ | _, e⟩ <;> rfl
    have report : trackerReport u r = [trackerCode t.state] ++ trackerParameters t ++ [wordOf t.quietCount]
        ++ presentWords 3 (t.onset.map fun o => indexWords o.index ++ [o.epoch])
        ++ wordOf t.lags.length :: t.lags.map wordOf
        ++ [wordOf x.target, realignCode x.state, wordOf (u.shiftsOutstanding r)]
        ++ proposalWords x.proposal
        ++ presentWords 2 (x.lastChange.map fun c => [directionCode c.1, c.2])
        ++ [wordOf x.hold, t.matchCount, t.missCount] := rfl
    rw [report, hstate, honset, hrealign, hproposal, hchange]
    rfl

end Sys2Proof.Machine
end

section
/-! SUPPORT. The completion of a SHIFT: the chain moved, and the realign ended (R106, R107). -/

set_option Elab.async false

namespace Sys2Proof.Machine

/-! ## The chain moved (R106) -/

theorem length_shiftChain (old : List Partition) (d : Int) :
    (shiftChain old d).length = old.length := by
  simp [shiftChain]

theorem shiftChain_getElem (old : List Partition) (d : Int) {j : Nat} (hj : j < (shiftChain old d).length)
    (o : Fin 256) : ((shiftChain old d)[j])[o] =
      if 0 ≤ 256 * (j : Int) + o.val + d ∧ 256 * (j : Int) + o.val + d < 256 * old.length then
        tapOf old (256 * (j : Int) + o.val + d).toNat
      else 0 := by
  simp [shiftChain]

/-- Every tap of a chain that has all its positions reads as R106 says, once the moved chain is written. -/
theorem Store.readTap_writeChain_shiftChain {st : Store} {l : LaneId} {r : RefId} {old : List Partition}
    (h : ∀ j, j < old.length → (st.partAt l r j).isSome) (d : Int) {k : Nat} (hk : k < 256 * old.length) :
    (st.writeChain l r 0 (shiftChain old d)).readTap l r k =
      if 0 ≤ (k : Int) + d ∧ (k : Int) + d < 256 * old.length then tapOf old ((k : Int) + d).toNat
      else 0 := by
  have hpos : k / 256 < (shiftChain old d).length := by
    rw [length_shiftChain]
    omega
  have hread := (Store.readPart_writeChain l r (shiftChain old d) st 0).1 (k / 256) hpos
    (by rw [Nat.zero_add]; exact h _ (by omega))
  rw [Nat.zero_add] at hread
  have htap : 256 * ((k / 256 : Nat) : Int) + ((k % 256 : Nat) : Int) = k := by omega
  refine (congrArg (fun v : Partition => v[(⟨k % 256, Nat.mod_lt _ (by decide)⟩ : Fin 256)]) hread).trans ?_
  rw [shiftChain_getElem, htap]

theorem Store.readTap_writeChain_ne (st : Store) {l l' : LaneId} {r r' : RefId} (h : ¬(l' = l ∧ r' = r))
    (xs : List Partition) (k : Nat) :
    (st.writeChain l r 0 xs).readTap l' r' k = st.readTap l' r' k :=
  congrArg (fun v : Partition => v[(⟨k % 256, Nat.mod_lt _ (by decide)⟩ : Fin 256)])
    ((Store.readPart_writeChain l r xs st 0).2 l' r' (k / 256) fun hc => h ⟨hc.1, hc.2.1⟩)

/-! ## The realign ended (R107) -/

section
variable (s : State) (l : LaneId) (r : RefId) (d : Int) (old : List Partition)

/-- What the completion of a SHIFT leaves before the realign ends: the chain moved, D applied and the engine
idle (R106). -/
def State.shiftLanded : State :=
  { s.setLane l { s.lane l with delays := (s.lane l).delays.set r (some (s.realign r).target) } with
    store := s.store.writeChain l r 0 (shiftChain old d)
    engine := { s.engine with job := none } }

theorem State.completeShift_eq :
    s.completeShift l r d old = (s.shiftLanded l r d old).endRealignIfDone r := rfl

theorem State.shiftLanded_lane (k : LaneId) : (s.shiftLanded l r d old).lane k =
    if k = l then { s.lane l with delays := (s.lane l).delays.set r (some (s.realign r).target) }
    else s.lane k := State.lane_setLane ..

/-- The SHIFTs outstanding once one has landed are those that wait. -/
theorem State.shiftLanded_outstanding (q : RefId) : (s.shiftLanded l r d old).shiftsOutstanding q =
    (s.engine.queue.filter fun e => e.isShiftOf q).length := rfl

theorem State.shiftLanded_outstanding_pos (h : ∃ e ∈ s.engine.queue, e.isShiftOf r = true) :
    0 < (s.shiftLanded l r d old).shiftsOutstanding r := by
  obtain ⟨e, he, hshift⟩ := h
  exact List.length_pos_of_mem (List.mem_filter.mpr ⟨he, hshift⟩)

theorem State.shiftLanded_outstanding_zero (h : ∀ e ∈ s.engine.queue, e.isShiftOf r = false) :
    (s.shiftLanded l r d old).shiftsOutstanding r = 0 :=
  State.shiftsOutstanding_eq_zero.mpr ⟨h, rfl⟩

/-- The realign's end changes its own record, and requests SHIFTs. -/
theorem realigned_completeShift : Realigned (fun _ => False) (· = r) (fun _ => True)
    (s.shiftLanded l r d old) (s.completeShift l r d old) :=
  (Realigned.refl _).endRealignIfDone rfl fun _ => trivial

end

theorem exec_shiftComplete {s : State} {l : LaneId} {r : RefId} {d : Int} {old : List Partition}
    (h : s.beginEvent.engine.job = some (.shift l r d old)) :
    exec .shiftComplete s = .next (s.beginEvent.completeShift l r d old) := by
  simp only [exec, execShiftComplete, h]

/-- Settles O40: the chain is moved and D applied, and then the realign ends if no SHIFT of the reference
waits. -/
theorem shiftCompletionMovesChain : Obligations.ShiftCompletionMovesChain := by
  intro s l r d old u x hjob hpos
  have kept := (Keeps.refl u).completeShift l r d old
  have ended := realigned_completeShift u l r d old
  have completed := u.completeShift_eq l r d old
  have waiting := u.shiftLanded_outstanding_pos l r d old
  have last := u.shiftLanded_outstanding_zero l r d old
  have landed := u.shiftLanded_lane l r d old
  have hlane : (u.completeShift l r d old).lane l =
      { x with delays := x.delays.set r (some (u.realign r).target) } :=
    (ended.lane l).trans ((landed l).trans (if_pos rfl))
  have hv : ({ u.setLane l ((u.completeShift l r d old).lane l) with
      store := (u.completeShift l r d old).store, engine := { u.engine with job := none } } : State) =
        u.shiftLanded l r d old := by
    rw [hlane, ended.store]
    rfl
  have going : (∃ e ∈ u.engine.queue, e.isShiftOf r = true) →
      u.completeShift l r d old = u.shiftLanded l r d old := fun hwaits =>
    completed.trans (State.endRealignIfDone_going (.inr (waiting hwaits)))
  refine ⟨_, exec_shiftComplete hjob, fun k hk => ?_, fun l' r' k hne => ?_, kept.map, hlane,
    fun k hk => (ended.lane k).trans ((landed k).trans (if_neg hk)), ended.job, ended.refs,
    kept.epoch, ended.checkpoints, fun hwaits => ?_, fun hnone hst hpending => ?_, ?_⟩
  · rw [ended.store]
    exact Store.readTap_writeChain_shiftChain hpos d hk
  · rw [ended.store]
    exact Store.readTap_writeChain_ne _ hne _ k
  · rw [going hwaits]
    exact ⟨rfl, rfl, rfl⟩
  · have hdone := completed.trans (State.endRealignIfDone_none hst (last hnone) hpending)
    rw [hdone, State.realignEnded_realign]
    refine ⟨?_, rfl⟩
    rw [← hpending]
    rfl
  · rw [hv]
    refine ⟨completed, fun h => ?_, fun hst hnone => ?_⟩
    · obtain hidle | hwaits := h
      · exact completed.trans (State.endRealignIfDone_going (.inl hidle))
      · exact going hwaits
    · intro v
      cases hp : (u.realign r).proposal with
      | none => exact completed.trans (State.endRealignIfDone_none hst (last hnone) hp)
      | some p =>
        have idle : (((u.shiftLanded l r d old).realignEnded r).realign r).state = .idle := by
          rw [State.realignEnded_realign]
        refine (completed.trans (State.endRealignIfDone_pending (s := u.shiftLanded l r d old) hst (last hnone) hp)).trans ?_
        rw [← State.commit_idle idle]
        rfl

end Sys2Proof.Machine
end

section
/-! SUPPORT. A realign is SHIFTING exactly while a SHIFT of its reference waits or runs (R94): what Realign
Control does to one record, and then to all of them. -/

-- One proof at a time: the whole text elaborated at once does not fit the check's memory limit.
set_option Elab.async false

namespace Sys2Proof.Machine

/-! ## One realign record (R94) -/

/-- The part of R94 that speaks of the record alone. -/
def Realign.ok (x : Realign) : Prop :=
  (x.proposal.isSome → x.state = .shifting) ∧ (∀ d o, x.proposal = some (d, o) → d ≤ 1023)
    ∧ x.target ≤ 1023 ∧ x.hold ≤ 256

theorem State.realignOk_iff {s : State} {r : RefId} : s.realignOk r ↔
    ((s.realign r).state = .shifting ↔ 0 < s.shiftsOutstanding r) ∧ (s.realign r).ok := .rfl

section
variable {x : Realign} (h : x.ok)
include h

theorem Realign.ok.proposal_none (hst : x.state = .idle) : x.proposal = none := by
  obtain ⟨hprop, -⟩ := h
  cases hp : x.proposal with
  | none => rfl
  | some p => simp [hp, hst] at hprop

theorem Realign.ok.proposal_le {d : Nat} {o : Origin} (hp : x.proposal = some (d, o)) : d ≤ 1023 := by
  obtain ⟨-, hle, -⟩ := h
  exact hle d o hp

theorem Realign.ok.withHold {n : Nat} (hn : n ≤ 256) : ({ x with hold := n } : Realign).ok := by
  obtain ⟨hprop, hle, htarget, -⟩ := h
  exact ⟨hprop, hle, htarget, hn⟩

theorem Realign.ok.withChange (c : Option (Direction × Epoch)) :
    ({ x with lastChange := c } : Realign).ok := h

theorem Realign.ok.retargeted {d : Nat} (hd : d ≤ 1023) (now : Epoch) : (x.retargeted d now).ok := by
  obtain ⟨hprop, hle, -, hhold⟩ := h
  exact ⟨hprop, hle, hd, hhold⟩

theorem Realign.ok.shifting : ({ x with state := .shifting } : Realign).ok := by
  obtain ⟨-, hrest⟩ := h
  exact ⟨fun _ => rfl, hrest⟩

theorem Realign.ok.proposed (hst : x.state = .shifting) {d : Nat} (hd : d ≤ 1023) (o : Origin) :
    ({ x with proposal := some (d, o) } : Realign).ok := by
  obtain ⟨-, -, hrest⟩ := h
  refine ⟨fun _ => hst, fun d' o' hp => ?_, hrest⟩
  cases hp
  exact hd

theorem Realign.ok.ended : ({ x with state := .idle, proposal := none } : Realign).ok := by
  obtain ⟨-, -, hrest⟩ := h
  exact ⟨nofun, nofun, hrest⟩

end

/-! ## What the outstanding SHIFTs depend on -/

section
variable {s t : State} {r : RefId}

theorem State.shiftInFlight_congr (hj : t.engine.job = s.engine.job) (r : RefId) :
    t.shiftInFlight r = s.shiftInFlight r := by
  rw [State.shiftInFlight, State.shiftInFlight, hj]

theorem State.shiftsOutstanding_congr (hj : t.engine.job = s.engine.job)
    (hq : t.engine.queue.filter (·.isShiftOf r) = s.engine.queue.filter (·.isShiftOf r)) :
    t.shiftsOutstanding r = s.shiftsOutstanding r := by
  rw [State.shiftsOutstanding, State.shiftsOutstanding, hq, State.shiftInFlight_congr hj]

theorem State.shiftsOutstanding_pos_of_mem {e : MaintEntry} (he : e ∈ s.engine.queue)
    (hr : e.isShiftOf r = true) : 0 < s.shiftsOutstanding r :=
  Nat.add_pos_left (List.length_pos_of_mem (List.mem_filter.mpr ⟨he, hr⟩)) _

theorem State.realignOk_congr (hx : t.realign r = s.realign r)
    (ho : t.shiftsOutstanding r = s.shiftsOutstanding r) (h : s.realignOk r) : t.realignOk r := by
  rw [State.realignOk_iff] at h ⊢
  rwa [hx, ho]

theorem State.realignOk_of_idle {x : Realign} (hr : s.realign r = x) (hst : x.state = .idle)
    (ho : s.shiftsOutstanding r = 0) (hx : x.ok) : s.realignOk r := by
  subst hr
  refine State.realignOk_iff.mpr ⟨?_, hx⟩
  simp [hst, ho]

theorem State.realignOk_of_shifting {x : Realign} (hr : s.realign r = x) (hst : x.state = .shifting)
    (ho : 0 < s.shiftsOutstanding r) (hx : x.ok) : s.realignOk r := by
  subst hr
  exact State.realignOk_iff.mpr ⟨iff_of_true hst ho, hx⟩

/-- Realign Control acting for other references leaves the SHIFTs of `r` as they were. -/
theorem Realigned.shiftsOutstanding {T R Q : RefId → Prop} (h : Realigned T R Q s t) (hr : ¬Q r) :
    t.shiftsOutstanding r = s.shiftsOutstanding r := by
  obtain ⟨more, hmore, hshifts⟩ := h.queue
  refine State.shiftsOutstanding_congr h.job ?_
  have others : more.filter (·.isShiftOf r) = [] := by
    refine List.filter_eq_nil_iff.mpr fun e he => ?_
    obtain ⟨-, q, d, hkind, hq⟩ := hshifts e he
    have hne : q ≠ r := fun heq => hr (heq ▸ hq)
    simp [MaintEntry.isShiftOf, hkind, hne]
  rw [hmore, List.filter_append, others, List.append_nil]

end

/-! ## Committing a delay, and the end of a realign (R103 to R108) -/

/-- Only bound lanes name references. -/
def State.refsBound (s : State) : Prop :=
  ∀ l, (s.lane l).state = .unbound → boundRefs (s.lane l) = []

theorem Realigned.refsBound {T R Q : RefId → Prop} {s t : State} (h : Realigned T R Q s t)
    (hb : s.refsBound) : t.refsBound := by
  intro l
  rw [h.lane]
  exact hb l

/-- The realign of `r` may have to be ended: no SHIFT of an IDLE realign is outstanding, but a SHIFTING one
may have run out of SHIFTs. -/
def State.realignEndable (s : State) (r : RefId) : Prop :=
  (0 < s.shiftsOutstanding r → (s.realign r).state = .shifting) ∧ (s.realign r).ok

theorem State.realignOk.endable {s : State} {r : RefId} (h : s.realignOk r) : s.realignEndable r := by
  obtain ⟨hshift, hx⟩ := State.realignOk_iff.mp h
  exact ⟨hshift.mpr, hx⟩

section
variable {s t : State} {r : RefId} {d : Nat}

/-- A change of the target ends with every bound lane's SHIFT outstanding, or with none bound (R105). -/
theorem State.realignOk_setTarget (hst : (s.realign r).state = .idle) (ho : s.shiftsOutstanding r = 0)
    (hx : (s.realign r).ok) (hb : s.refsBound) (hd : d ≤ 1023) : (s.setTarget r d).1.realignOk r := by
  by_cases hlanes : ∃ l, r ∈ boundRefs (s.lane l)
  · rw [State.setTarget_requested hlanes]
    obtain ⟨l, hl⟩ := hlanes
    have bound : (s.lane l).state ≠ .unbound := fun hu => by simp [hb l hu] at hl
    obtain ⟨hnone, -⟩ := State.shiftsOutstanding_eq_zero.mp ho
    have accepted : s.acceptsShift r l := by
      refine ⟨bound, ?_⟩
      simp only [State.shiftWaiting, List.any_eq_false]
      intro e he
      simp [hnone e he]
    have joined : s.shiftEntry r d l ∈ s.shiftEntries r d (s.lanesBoundTo r) := by
      refine List.mem_map_of_mem (List.mem_filter.mpr ⟨(s.mem_lanesBoundTo r l).mpr hl, ?_⟩)
      exact decide_eq_true accepted
    refine State.realignOk_of_shifting (State.realign_setRealign_self ..) rfl ?_
      (hx.retargeted hd s.epoch).shifting
    exact State.shiftsOutstanding_pos_of_mem (List.mem_append_right _ joined)
      (by simp [State.shiftEntry, MaintEntry.isShiftOf])
  · rw [State.setTarget_atOnce (by simpa using hlanes)]
    exact State.realignOk_of_idle (State.realign_setRealign_self ..) hst ho (hx.retargeted hd s.epoch)

theorem State.realignOk_commitIdle (hst : (s.realign r).state = .idle)
    (ho : s.shiftsOutstanding r = 0) (hx : (s.realign r).ok) (hb : s.refsBound) (hd : d ≤ 1023)
    (o : Origin) : (s.commitIdle r d o).1.realignOk r := by
  by_cases hsame : d = (s.realign r).target
  · rw [State.commitIdle_unchanged hsame]
    exact State.realignOk_of_idle rfl hst ho hx
  by_cases hhunt : o = .tracker ∧ hunting (s.realign r) d = true
  · rw [State.commitIdle_hunting hsame hhunt]
    exact State.realignOk_of_idle (State.realign_setRealign_self ..) hst ho (hx.withHold (le_refl _))
  · rw [State.commitIdle_passed hsame hhunt]
    exact State.realignOk_setTarget hst ho hx hb hd

theorem State.realignOk_commit (h : s.realignOk r) (hb : s.refsBound) (hd : d ≤ 1023) (o : Origin) :
    (s.commit r d o).1.realignOk r := by
  obtain ⟨hshift, hx⟩ := State.realignOk_iff.mp h
  cases hst : (s.realign r).state with
  | shifting =>
    rw [State.commit_shifting hst]
    exact State.realignOk_of_shifting (State.realign_setRealign_self ..) hst (hshift.mp hst)
      (hx.proposed hst hd o)
  | idle =>
    have none : s.shiftsOutstanding r = 0 := by simpa [hst] using hshift
    rw [State.commit_idle hst]
    exact State.realignOk_commitIdle hst none hx hb hd o

/-- The end of a realign with no SHIFT left; a pending proposal may begin the next (R107). -/
theorem State.realignOk_endRealignIfDone (h : s.realignEndable r) (hb : s.refsBound) :
    (s.endRealignIfDone r).realignOk r := by
  obtain ⟨hshift, hx⟩ := h
  by_cases hout : 0 < s.shiftsOutstanding r
  · rw [State.endRealignIfDone_going (.inr hout)]
    exact State.realignOk_of_shifting rfl (hshift hout) hout hx
  have none : s.shiftsOutstanding r = 0 := Nat.eq_zero_of_not_pos hout
  cases hst : (s.realign r).state with
  | idle =>
    rw [State.endRealignIfDone_going (.inl hst)]
    exact State.realignOk_of_idle rfl hst none hx
  | shifting =>
    have record := State.realignEnded_realign s r
    have idle : ((s.realignEnded r).realign r).state = .idle := congrArg Realign.state record
    have ended : ((s.realignEnded r).realign r).ok := record ▸ hx.ended
    cases hp : (s.realign r).proposal with
    | none =>
      rw [State.endRealignIfDone_none hst none hp]
      exact State.realignOk_of_idle rfl idle none ended
    | some p =>
      obtain ⟨d, o⟩ := p
      rw [State.endRealignIfDone_pending hst none hp]
      exact State.realignOk_commitIdle idle none ended hb (hx.proposal_le hp) o

end

/-! ## All the realign records -/

/-- The realign records are as R94 says, and only bound lanes name references. -/
structure RealignsHold (s : State) : Prop where
  realign : ∀ r, s.realignOk r
  refs    : s.refsBound

section
variable {s t : State} {r : RefId}

/-- Realign Control has acted for `r` alone. -/
theorem RealignsHold.realigned {T : RefId → Prop} (h : RealignsHold s)
    (k : Realigned T (· = r) (· = r) s t) (hr : t.realignOk r) : RealignsHold t := by
  refine ⟨fun q => ?_, k.refsBound h.refs⟩
  by_cases hq : q = r
  · exact hq ▸ hr
  · exact State.realignOk_congr (k.realign q hq) (k.shiftsOutstanding hq) (h.realign q)

theorem RealignsHold.commit (h : RealignsHold s) (r : RefId) {d : Nat} (hd : d ≤ 1023) (o : Origin) :
    RealignsHold (s.commit r d o).1 :=
  have acted : Realigned (fun _ => False) (· = r) (· = r) s (s.commit r d o).1 :=
    Realigned.commit (R := (· = r)) (Q := (· = r)) (.refl s) rfl rfl d o
  h.realigned acted (State.realignOk_commit (h.realign r) h.refs hd o)

/-- Realign Control ends what there is to end for each of `rs`; the others are as R94 says (R108). -/
theorem RealignsHold.endRealigns (rs : List RefId) :
    ∀ {s : State}, (∀ r, s.realignEndable r) → (∀ r, r ∉ rs → s.realignOk r) → s.refsBound →
      RealignsHold (s.endRealigns rs) := by
  induction rs with
  | nil => exact fun _ hok hb => ⟨fun r => hok r (by simp), hb⟩
  | cons r rs ih =>
    intro s hend hok hb
    have ended : Realigned (fun _ => False) (· = r) (· = r) s (s.endRealignIfDone r) :=
      (Realigned.refl s).endRealignIfDone rfl fun _ => rfl
    have done := State.realignOk_endRealignIfDone (hend r) hb
    refine ih (fun q => ?_) (fun q hq => ?_) (ended.refsBound hb)
    · by_cases hqr : q = r
      · exact hqr ▸ done.endable
      · rw [State.realignEndable, ended.realign q hqr, ended.shiftsOutstanding hqr]
        exact hend q
    · by_cases hqr : q = r
      · exact hqr ▸ done
      · exact State.realignOk_congr (ended.realign q hqr) (ended.shiftsOutstanding hqr)
          (hok q (by simp [hqr, hq]))

end

end Sys2Proof.Machine
end

section
/-! SUPPORT. A realign is SHIFTING exactly while a SHIFT of its reference waits or runs (R94): what the
operations on the state keep of it. -/

-- One proof at a time: the whole text elaborated at once does not fit the check's memory limit.
set_option Elab.async false

namespace Sys2Proof.Machine

/-- From `s` to `t` the realign records stay as R94 says, and the engine's job is the same. -/
structure RealignsKept (s t : State) : Prop where
  hold : RealignsHold s → RealignsHold t
  job  : t.engine.job = s.engine.job

theorem RealignsKept.refl (s : State) : RealignsKept s s := ⟨id, rfl⟩

theorem RealignsKept.trans {s t u : State} (a : RealignsKept s t) (b : RealignsKept t u) :
    RealignsKept s u := ⟨b.hold ∘ a.hold, b.job.trans a.job⟩

section
variable {s t u : State} {r : RefId}

/-- An operation that leaves the number of outstanding SHIFTs of each reference, and the state of each
realign, as they are. -/
theorem RealignsHold.reworked (h : RealignsHold t)
    (ho : ∀ r, u.shiftsOutstanding r = t.shiftsOutstanding r)
    (hst : ∀ r, (u.realign r).state = (t.realign r).state)
    (hx : ∀ r, (t.realign r).ok → (u.realign r).ok) (hb : u.refsBound) : RealignsHold u := by
  refine ⟨fun r => ?_, hb⟩
  obtain ⟨hshift, hok⟩ := State.realignOk_iff.mp (h.realign r)
  rw [State.realignOk_iff, hst, ho]
  exact ⟨hshift, hx r hok⟩

theorem State.realign_of_realigns (h : u.realigns = t.realigns) (r : RefId) :
    u.realign r = t.realign r := by rw [State.realign, State.realign, h]

theorem State.refsBound_of_lanes (h : u.lanes = t.lanes) (hb : t.refsBound) : u.refsBound := by
  intro l
  rw [State.lane_of_lanes h]
  exact hb l

/-- An operation that leaves the realigns and the lanes alone, and the number of outstanding SHIFTs. -/
theorem RealignsHold.requeued (h : RealignsHold t)
    (ho : ∀ r, u.shiftsOutstanding r = t.shiftsOutstanding r)
    (hr : u.realigns = t.realigns := by rfl) (hl : u.lanes = t.lanes := by rfl) : RealignsHold u := by
  have record := State.realign_of_realigns hr
  refine h.reworked ho (fun r => congrArg Realign.state (record r)) (fun r => ?_)
    (State.refsBound_of_lanes hl h.refs)
  rw [record]
  exact id

/-- An operation that leaves the realigns, the lanes and the engine's work alone. -/
theorem RealignsHold.same (h : RealignsHold t) (hq : u.engine.queue = t.engine.queue := by rfl)
    (hj : u.engine.job = t.engine.job := by rfl) (hr : u.realigns = t.realigns := by rfl)
    (hl : u.lanes = t.lanes := by rfl) : RealignsHold u :=
  h.requeued (fun _ => State.shiftsOutstanding_congr hj (by rw [hq])) hr hl

theorem RealignsKept.same (h : RealignsKept s t) (hq : u.engine.queue = t.engine.queue := by rfl)
    (hj : u.engine.job = t.engine.job := by rfl) (hr : u.realigns = t.realigns := by rfl)
    (hl : u.lanes = t.lanes := by rfl) : RealignsKept s u :=
  h.trans ⟨fun ht => ht.same hq hj hr hl, hj⟩

theorem RealignsKept.raiseLane (h : RealignsKept s t) (k : NoticeKind) (l : LaneId) :
    RealignsKept s (t.raiseLane k l) := h.same

theorem RealignsKept.withStore (h : RealignsKept s t) (st : Store) :
    RealignsKept s { t with store := st } := h.same

theorem RealignsKept.withCheckpoints (h : RealignsKept s t) (c : CheckpointStore) :
    RealignsKept s { t with checkpoints := c } := h.same

/-! ### Realign records -/

/-- A realign record replaced in fields other than its state. -/
theorem RealignsKept.setRealign (h : RealignsKept s t) {x : Realign}
    (hx : (t.realign r).ok → x.ok) (hst : x.state = (t.realign r).state := by rfl) :
    RealignsKept s (t.setRealign r x) := by
  refine h.trans ⟨fun ht => ht.reworked (fun _ => rfl) (fun q => ?_) (fun q => ?_) ht.refs, rfl⟩
  · rw [State.realign_setRealign]
    split
    · rw [hst, ‹q = r›]
    · rfl
  · rw [State.realign_setRealign]
    split
    · rw [‹q = r›]
      exact hx
    · exact id

theorem RealignsKept.commit (h : RealignsKept s t) (r : RefId) {d : Nat} (hd : d ≤ 1023)
    (o : Origin) : RealignsKept s (t.commit r d o).1 := by
  have acted : Realigned (fun _ => False) (fun _ => True) (fun _ => True) t (t.commit r d o).1 :=
    Realigned.commit (.refl t) trivial trivial d o
  exact h.trans ⟨fun ht => ht.commit r hd o, acted.job⟩

theorem RealignsKept.propose (h : RealignsKept s t) (r : RefId) : RealignsKept s (t.propose r) := by
  simp only [State.propose]
  split
  · rename_i hproposed
    split
    · exact h.commit r (proposalOf_le hproposed) _
    · exact h
  · exact h

theorem RealignsKept.trackMicrophone (h : RealignsKept s t) (r : RefId) (f : Epoch) (x : Frame) :
    RealignsKept s (t.trackMicrophone r f x) := by
  simp only [State.trackMicrophone]
  split
  · split
    · exact h
    · split
      · exact RealignsKept.propose h.same r
      · exact h.same
      · exact h
  · exact h

theorem RealignsKept.handToTrackers (l : LaneId) (f : InFrame) (rs : List RefId) :
    ∀ {t : State}, RealignsKept s t → RealignsKept s (t.handToTrackers l f rs) := by
  induction rs with
  | nil => exact fun h => h
  | cons r rs ih =>
    intro t h
    simp only [State.handToTrackers]
    apply ih
    split
    · exact h.trackMicrophone r _ _
    · exact h

/-! ### Lane records -/

/-- A lane's record replaced by one that names references only if it is bound. -/
theorem RealignsKept.setLane (h : RealignsKept s t) (l : LaneId) {x : Lane}
    (hx : ((t.lane l).state = .unbound → boundRefs (t.lane l) = []) →
      x.state = .unbound → boundRefs x = []) : RealignsKept s (t.setLane l x) := by
  refine h.trans ⟨fun ht => ht.reworked (fun _ => rfl) (fun _ => rfl) (fun _ => id) fun k => ?_, rfl⟩
  rw [State.lane_setLane]
  split
  · exact hx (ht.refs l)
  · exact ht.refs k

/-- A lane's record replaced in fields other than its state and its references. -/
theorem RealignsKept.setLane_same (h : RealignsKept s t) (l : LaneId) {x : Lane}
    (hst : x.state = (t.lane l).state := by rfl) (hrefs : x.refs = (t.lane l).refs := by rfl) :
    RealignsKept s (t.setLane l x) := by
  refine h.setLane l fun hb => ?_
  rw [hst, boundRefs, hrefs]
  exact hb

theorem RealignsKept.insertOutput (h : RealignsKept s t) (l : LaneId) (o : OutFrame) :
    RealignsKept s (t.insertOutput l o) := by
  simp only [State.insertOutput]
  split
  · exact (h.setLane_same l).raiseLane _ _
  · exact h.setLane_same l

theorem RealignsKept.passFrame (h : RealignsKept s t) (l : LaneId) (f : InFrame) :
    RealignsKept s (t.passFrame l f) := by
  rw [State.passFrame]
  exact RealignsKept.handToTrackers l f _ (h.insertOutput l _)

theorem RealignsKept.passFrames (l : LaneId) (fs : List InFrame) :
    ∀ {t : State}, RealignsKept s t → RealignsKept s (t.passFrames l fs) := by
  induction fs with
  | nil => exact fun h => h
  | cons f fs ih =>
    intro t h
    rw [State.passFrames]
    exact ih (h.passFrame l f)

theorem RealignsKept.flush (h : RealignsKept s t) (l : LaneId) : RealignsKept s (t.flush l) := by
  rw [State.flush]
  exact RealignsKept.passFrames l _ (h.setLane_same l)

theorem RealignsKept.acceptMic (h : RealignsKept s t) (l : LaneId) (f : InFrame) :
    RealignsKept s (t.acceptMic l f) := by
  simp only [State.acceptMic]
  split
  · exact (h.setLane_same l (x := countAccepted (t.lane l) f.epoch)).passFrame l f
  · exact h.setLane_same l

theorem RealignsKept.enterBypass (h : RealignsKept s t) (l : LaneId) :
    RealignsKept s (t.enterBypass l) := by
  have entered := h.setLane l
    (x := { t.lane l with state := .bypass, guard := endRetry (t.lane l).guard }) (by simp)
  simp only [State.enterBypass]
  split
  · exact entered
  · exact entered.flush l

theorem boundRefs_of_none {x : Lane} (h : x.refs = none) : boundRefs x = [] := by
  rw [boundRefs, h]
  decide

/-! ### The Maintenance Queue -/

/-- An operation that changes no waiting SHIFT. -/
theorem RealignsKept.requeued (h : RealignsKept s t)
    (hq : ∀ r, u.engine.queue.filter (·.isShiftOf r) = t.engine.queue.filter (·.isShiftOf r))
    (hj : u.engine.job = t.engine.job := by rfl) (hr : u.realigns = t.realigns := by rfl)
    (hl : u.lanes = t.lanes := by rfl) : RealignsKept s u :=
  h.trans ⟨fun ht => ht.requeued (fun r => State.shiftsOutstanding_congr hj (hq r)) hr hl, hj⟩

/-- A request of maintenance other than a SHIFT (R61). -/
theorem RealignsKept.request (h : RealignsKept s t) (l : LaneId) {k : MaintKind}
    (hk : ∀ r, ({ kind := k, lane := l } : MaintEntry).isShiftOf r = false := by exact fun _ => rfl) :
    RealignsKept s (t.request l k) := by
  simp only [State.request]
  split
  · exact h
  · refine h.requeued fun r => ?_
    simp [List.filter_append, hk r]

theorem MaintEntry.isShiftOf_save (l : LaneId) (r : RefId) :
    ({ kind := .save, lane := l } : MaintEntry).isShiftOf r = false := rfl

theorem RealignsKept.dropSave (h : RealignsKept s t) (l : LaneId) : RealignsKept s (t.dropSave l) := by
  refine h.requeued fun r => ?_
  simp only [State.dropSave, State.removeEntries, List.filter_filter]
  refine List.filter_congr fun e _ => ?_
  by_cases he : e = { kind := .save, lane := l }
  · simp [he, MaintEntry.isShiftOf_save]
  · simp [he]

/-- A lane's entries have left the queue: Realign Control ends the realigns whose SHIFT was among them
(R108). -/
theorem RealignsHold.entriesTaken (h : RealignsHold s) (l : LaneId) (hr : t.realigns = s.realigns)
    (hj : t.engine.job = s.engine.job) (hb : t.refsBound)
    (hq : ∀ r, t.engine.queue.filter (·.isShiftOf r) =
      (s.engine.queue.filter (·.isShiftOf r)).filter (·.lane ≠ l)) :
    RealignsHold (t.endRealigns (s.shiftingRefs l)) := by
  have record := State.realign_of_realigns hr
  refine RealignsHold.endRealigns _ (fun r => ?_) (fun r hnone => ?_) hb
  · obtain ⟨hshift, hx⟩ := (h.realign r).endable
    rw [State.realignEndable, record]
    refine ⟨fun hpos => hshift (lt_of_lt_of_le hpos ?_), hx⟩
    rw [State.shiftsOutstanding, State.shiftsOutstanding, State.shiftInFlight_congr hj, hq]
    exact Nat.add_le_add_right (List.length_filter_le _ _) _
  · have others : ∀ e ∈ s.engine.queue, e.isShiftOf r = true → e.lane ≠ l := by
      simpa [mem_shiftingRefs, State.shiftWaiting, imp_not_comm] using hnone
    refine State.realignOk_congr (record r) (State.shiftsOutstanding_congr hj ?_) (h.realign r)
    rw [hq, List.filter_eq_self]
    intro e he
    obtain ⟨hmem, hshift⟩ := List.mem_filter.mp he
    simpa using others e hmem hshift

theorem RealignsHold.unbindLane (h : RealignsHold s) {l : LaneId} (hfree : s.holdsOffUnbind l = false) :
    RealignsHold (s.unbindLane l) := by
  rw [State.unbindLane_eq hfree]
  have others : ∀ r, ((s.unbinding l).engine.queue).filter (·.isShiftOf r) =
      (s.engine.queue.filter (·.isShiftOf r)).filter (·.lane ≠ l) := by
    intro r
    have hqueue : (s.unbinding l).engine.queue = s.engine.queue.filter fun e => !(e.lane == l) := rfl
    rw [hqueue, List.filter_comm]
    exact List.filter_congr fun e _ => by simp [beq_eq_decide]
  refine h.entriesTaken l rfl rfl (fun k => ?_) others
  by_cases hk : k = l
  · rw [hk, State.unbinding_lane]
    exact fun _ => boundRefs_of_none rfl
  · rw [State.unbinding_lane_ne s hk]
    exact h.refs k

theorem RealignsHold.clearLane (h : RealignsHold s) (l : LaneId) : RealignsHold (s.clearLane l) := by
  rw [State.clearLane_eq]
  have others : ∀ r, (resetQueue l s.engine.queue).filter (·.isShiftOf r) =
      (s.engine.queue.filter (·.isShiftOf r)).filter (·.lane ≠ l) := by
    intro r
    have kept : (s.engine.queue.filter fun e => !resetRemoves l e).filter (·.isShiftOf r) =
        (s.engine.queue.filter (·.isShiftOf r)).filter (·.lane ≠ l) := by
      simp only [List.filter_filter]
      refine List.filter_congr fun e _ => ?_
      obtain ⟨kind, k⟩ := e
      cases kind <;> simp [resetRemoves_eq, MaintEntry.isShiftOf]
      exact Bool.and_comm _ _
    have clear : ({ kind := .clear, lane := l } : MaintEntry).isShiftOf r = false := rfl
    rw [resetQueue]
    split
    · exact kept
    · simp [List.filter_append, kept, clear]
  refine h.entriesTaken l rfl rfl (fun k => ?_) others
  exact (RealignsKept.refl s).setLane l
    (x := clearingLane (s.lane l) (s.resetDelays l)) (by simp [clearingLane]) |>.hold h |>.refs k

end

end Sys2Proof.Machine
end

section
/-! SUPPORT. A realign is SHIFTING exactly while a SHIFT of its reference waits or runs (R94): the advance,
how an event begins, and the completions. -/

-- One proof at a time: the whole text elaborated at once does not fit the check's memory limit.
set_option Elab.async false

namespace Sys2Proof.Machine

section
variable {s t : State}

/-! ## The advance and its actions (R1, R102, R128) -/

theorem RealignsKept.gap (h : RealignsKept s t) (r : RefId) (p : Epoch) :
    RealignsKept s (t.gap r p) := by
  simp only [State.gap]
  split
  · exact h.same
  · exact h.same

theorem RealignsKept.resolveFrom (r : RefId) (n : Nat) :
    ∀ {t : State} (p : Epoch), RealignsKept s t → RealignsKept s (t.resolveFrom r n p) := by
  induction n with
  | zero => exact fun _ h => h
  | succ n ih =>
    intro t p h
    refine ih _ ?_
    rw [State.resolveOne]
    split
    · exact h
    · exact h.gap r p

theorem RealignsKept.resolve (h : RealignsKept s t) (r : RefId) : RealignsKept s (t.resolve r) := by
  simp only [State.resolve]
  split
  · exact h
  · exact h
  · split
    · exact h
    · exact (RealignsKept.resolveFrom r _ _ h).same

theorem RealignsKept.act (h : RealignsKept s t) (a : EpochAction) : RealignsKept s (t.act a) := by
  cases a with
  | onsetAge r => exact h.same
  | resolve r => exact h.resolve r
  | holdEnd r => exact h.setRealign fun hx => hx.withHold (Nat.zero_le _)
  | changeAge r =>
    simp only [State.act, State.doChangeAge_eq]
    exact h.setRealign fun hx => hx.withChange _
  | expire l =>
    simp only [State.act, State.doExpire]
    split
    · exact h
    · exact (h.setLane_same l).raiseLane _ _
  | acceptedAge l =>
    simp only [State.act, State.doAcceptedAge_eq]
    exact h.setLane_same l
  | retryEnd l => exact h.setLane l (by simp)
  | saveAge l =>
    simp only [State.act, State.doSaveAge_eq]
    exact h.setLane_same l

theorem RealignsKept.actAll (as : List EpochAction) :
    ∀ {t : State}, RealignsKept s t → RealignsKept s (t.actAll as) := by
  induction as with
  | nil => exact fun h => h
  | cons a as ih => exact fun h => ih (h.act a)

theorem RealignsKept.takeAction (h : RealignsKept s t) (a : EpochAction) :
    RealignsKept s (t.takeAction a) := by
  simp only [State.takeAction]
  split
  · exact RealignsKept.act h.same a
  · exact h

theorem Realign.ok.ticked {x : Realign} (h : x.ok) : (holdTick x).ok := by
  obtain ⟨-, -, -, hhold⟩ := id h
  rw [holdTick_eq]
  exact h.withHold (by split <;> omega)

/-- The advance counts the hold and the retry countdowns (R102, R128). -/
theorem RealignsKept.advance (h : RealignsKept s t) : RealignsKept s t.advance := by
  refine h.trans ⟨fun ht => ht.reworked (fun _ => rfl) (fun r => ?_) (fun r hx => ?_) fun l => ?_, rfl⟩
  · rw [State.advance_realign, holdTick_eq]
  · rw [State.advance_realign]
    exact hx.ticked
  · rw [State.advance_lane, retryTick_eq]
    exact ht.refs l

/-! ## How an event begins -/

/-- No SHIFT runs: the engine is idle, or its job is another. -/
def State.noShiftRuns (s : State) : Prop := ∀ r, s.shiftInFlight r = false

theorem State.noShiftRuns_of_idle (h : s.engine.job = none) : s.noShiftRuns := by
  intro r
  rw [State.shiftInFlight, h]

theorem State.noShiftRuns_of_job {j : Job} (h : s.engine.job = some j)
    (hj : ∀ l r d old, j ≠ .shift l r d old := by simp) : s.noShiftRuns := by
  intro r
  rw [State.shiftInFlight, h]
  cases j with
  | shift l q d old => exact absurd rfl (hj l q d old)
  | pass | save | restore | clear => rfl

/-- While no SHIFT runs before or after, the job does not count. -/
theorem RealignsHold.rescheduled (h : RealignsHold s) (hs : s.noShiftRuns) (ht : t.noShiftRuns)
    (hq : t.engine.queue = s.engine.queue := by rfl) (hr : t.realigns = s.realigns := by rfl)
    (hl : t.lanes = s.lanes := by rfl) : RealignsHold t := by
  refine h.requeued (fun r => ?_) hr hl
  rw [State.shiftsOutstanding, State.shiftsOutstanding, hq, hs r, ht r]

theorem RealignsHold.startPass (h : RealignsHold s) (hidle : s.engine.job = none) (l : LaneId) :
    RealignsHold (s.startPass l) := by
  simp only [State.startPass]
  split
  · exact h
  · rename_i f rest _
    refine (RealignsKept.handToTrackers l f allRefs (.refl _)).hold ?_
    have taken := (RealignsKept.refl s).setLane_same l
      (x := { s.lane l with input := rest, inFlight := some f })
    exact (taken.hold h).rescheduled (State.noShiftRuns_of_idle hidle) fun _ => rfl

theorem RealignsHold.startOldestPass (h : RealignsHold s) (hidle : s.engine.job = none) :
    RealignsHold s.startOldestPass := by
  rw [State.startOldestPass]
  split
  · exact h
  · exact h.startPass hidle _

/-- The entry that starts is a SHIFT that waited, and runs now (R64). -/
theorem RealignsHold.startMaintenance (h : RealignsHold s) (hidle : s.engine.job = none) :
    RealignsHold s.startMaintenance := by
  rw [State.startMaintenance]
  split
  · exact h
  · rename_i e rest hqueue
    refine h.requeued fun r => ?_
    have runs : (({ s with engine := { s.engine with job := some (s.jobOf e), queue := rest } } :
        State).shiftInFlight r) = e.isShiftOf r := by
      obtain ⟨kind, l⟩ := e
      cases kind <;> rfl
    rw [State.shiftsOutstanding, State.shiftsOutstanding, runs, hqueue, List.filter_cons,
      State.noShiftRuns_of_idle hidle r]
    split <;> simp

theorem RealignsHold.arbitrate (h : RealignsHold s) : RealignsHold s.arbitrate := by
  rw [State.arbitrate]
  split
  · exact h
  · rename_i hjob
    have hidle : s.engine.job = none := by simpa using hjob
    split
    · exact h.startOldestPass hidle
    · exact h.startMaintenance hidle

theorem RealignsHold.settleScrubber (h : RealignsHold s) : RealignsHold s.settleScrubber := by
  rw [State.settleScrubber]
  split
  · exact h
  · exact h.same

theorem RealignsHold.beginStart (h : RealignsHold s) : RealignsHold s.beginStart := by
  have acted : RealignsHold s.settleEpoch := (RealignsKept.actAll s.due (.refl _)).hold h.same
  exact acted.same

theorem RealignsHold.beginScrub (h : RealignsHold s) : RealignsHold s.beginScrub :=
  h.beginStart.arbitrate.same

theorem RealignsHold.beginEvent (h : RealignsHold s) : RealignsHold s.beginEvent :=
  h.beginScrub.settleScrubber

/-! ## The completions -/

theorem RealignsKept.landUpdates (l : LaneId) (fz : Vector (Option Freeze) 3) (us : List Update) :
    ∀ {t : State}, RealignsKept s t → RealignsKept s (t.landUpdates l fz us) := by
  induction us with
  | nil => exact fun h => h
  | cons u us ih =>
    intro t h
    simp only [State.landUpdates]
    apply ih
    split
    · exact (h.setLane_same l).withStore _
    · exact h

theorem RealignsKept.testLatch (h : RealignsKept s t) (l : LaneId) (m : Meter) (n : Nat) :
    RealignsKept s (t.testLatch l m n) := by
  simp only [State.testLatch]
  split
  · split
    · exact h.raiseLane _ _
    · exact h
  · split
    · exact (h.setLane_same l).raiseLane _ _
    · exact h

theorem RealignsKept.autoSave (h : RealignsKept s t) (l : LaneId) (g : Guard) (n : Nat) :
    RealignsKept s (t.autoSave l g n) := by
  simp only [State.autoSave]
  split
  · exact h.request l
  · exact h

theorem RealignsKept.meterStep (h : RealignsKept s t) (l : LaneId) (start : Lane) (b : Bool)
    (k : TalkState) (em eo : Nat) : RealignsKept s (t.meterStep l start b k em eo) := by
  have metered : ∀ {v : State} {x : Meter}, RealignsKept s v →
      RealignsKept s (v.setLane l { v.lane l with meter := x }) := fun hv => hv.setLane_same l
  simp only [State.meterStep, State.meterWindow]
  split
  · split
    · split
      · exact ((metered (metered h)).testLatch l _ _).autoSave l _ _
      · exact metered (metered h)
    · exact metered (metered h)
  · exact metered h

theorem RealignsKept.trip (h : RealignsKept s t) (l : LaneId) (g : Guard) :
    RealignsKept s (t.trip l g) := by
  have dropped := h.dropSave l
  simp only [State.trip]
  split
  · exact ((dropped.setLane l (by simp)).request l).raiseLane _ _
  · exact ((dropped.setLane l (by simp)).request l).raiseLane _ _

theorem RealignsKept.guardStep (h : RealignsKept s t) (l : LaneId) (g : Guard) (v : Verdict) :
    RealignsKept s (t.guardStep l g v) := by
  simp only [State.guardStep, State.setDivergence]
  split
  · split
    · exact h
    · exact h.setLane_same l
    · exact h.setLane_same l
    · exact h.trip l g
  · exact h

theorem RealignsKept.outputStep (h : RealignsKept s t) (l : LaneId) (o : OutFrame) :
    RealignsKept s (t.outputStep l o) := by
  have inserted := (h.setLane_same l (x := { t.lane l with inFlight := none })).insertOutput l o
  simp only [State.outputStep]
  split
  · exact inserted.flush l
  · exact inserted

theorem RealignsKept.talkStep (h : RealignsKept s t) (l : LaneId) (res : PassResults) :
    RealignsKept s (t.talkStep l res) := h.setLane_same l

theorem RealignsKept.cursorStep (h : RealignsKept s t) (l : LaneId) (res : PassResults)
    (fz : Vector (Option Freeze) 3) : RealignsKept s (t.cursorStep l res fz) := h.setLane_same l

theorem RealignsKept.landResults (h : RealignsKept s t) (i : PassInputs) (res : PassResults) :
    RealignsKept s (t.landResults i res) := by
  have landed := RealignsKept.landUpdates i.lane res.freeze res.updates h
  simp only [State.landResults]
  exact ((((landed.talkStep _ _).meterStep _ _ _ _ _ _).guardStep _ _ _).cursorStep _ _ _).outputStep _ _

/-- The engine becomes idle after a job that is no SHIFT. -/
theorem RealignsKept.engineIdle (h : RealignsKept s t) (hs : RealignsHold s) (hno : s.noShiftRuns) :
    RealignsHold t.engineIdle := by
  refine (h.hold hs).rescheduled (fun r => ?_) fun _ => rfl
  rw [State.shiftInFlight_congr h.job]
  exact hno r

theorem RealignsKept.countPass (h : RealignsKept s t) : RealignsKept s t.countPass := h.same

theorem RealignsHold.completePass (h : RealignsHold s) (hno : s.noShiftRuns) (i : PassInputs) (g : Nat) :
    RealignsHold (s.completePass i g) := by
  simp only [State.completePass]
  refine RealignsKept.engineIdle (RealignsKept.countPass ?_) h hno
  split
  · exact (RealignsKept.refl s).setLane_same i.lane
  · exact (RealignsKept.refl s).landResults i _

theorem RealignsHold.completeSave (h : RealignsHold s) (hno : s.noShiftRuns) (l : LaneId) (x : Lane)
    (c : Chains) (e : Epoch) : RealignsHold (s.completeSave l x c e) := by
  have stacked : ∀ (y : Guard), RealignsKept s (s.setLane l { s.lane l with guard := y }) :=
    fun y => (RealignsKept.refl s).setLane_same l
  simp only [State.completeSave]
  refine RealignsKept.engineIdle ?_ h hno
  generalize (if Config.stackDepth ≤ (s.lane l).guard.stack.length then
    dropBottom s.checkpoints (s.lane l).guard.stack
    else (s.checkpoints, (s.lane l).guard.stack)) = a
  generalize makeRoom _ _ a.1 a.2 = b
  split
  · exact ((stacked _).withCheckpoints _).raiseLane _ _
  · exact (stacked _).withCheckpoints _

theorem RealignsHold.completeRestore (h : RealignsHold s) (hno : s.noShiftRuns) (l : LaneId) (x : Lane)
    (c : Chains) : RealignsHold (s.completeRestore l x c) := by
  have written : RealignsKept s (s.writeChains l (restoredChains x c)) := (RealignsKept.refl s).same
  simp only [State.completeRestore]
  refine RealignsKept.engineIdle ?_ h hno
  split
  · exact (written.setLane_same l).withCheckpoints _
  · exact written

theorem RealignsHold.completeClear (h : RealignsHold s) (hno : s.noShiftRuns) (l : LaneId) :
    RealignsHold (s.completeClear l) := by
  have written : RealignsKept s (s.writeChains l (zeroChains (s.lane l))) := (RealignsKept.refl s).same
  simp only [State.completeClear]
  refine RealignsKept.engineIdle ?_ h hno
  split
  · exact written.setLane l (x := { s.lane l with state := .bypass }) (by simp)
  · exact written

/-- A SHIFT has landed: its realign ends if it was the last one (R106, R107). -/
theorem RealignsHold.completeShift (h : RealignsHold s) {l : LaneId} {r : RefId} {d : Int}
    {old : List Partition} (hjob : s.engine.job = some (.shift l r d old)) :
    RealignsHold (s.completeShift l r d old) := by
  have runs : ∀ q, s.shiftInFlight q = (r == q) := fun q => by rw [State.shiftInFlight, hjob]
  have lanes : (s.shiftLanded l r d old).refsBound :=
    (((RealignsKept.refl s).setLane_same l (x := { s.lane l with
      delays := (s.lane l).delays.set r (some (s.realign r).target) })).hold h).refs
  rw [State.completeShift_eq]
  refine RealignsHold.endRealigns [r] (s := s.shiftLanded l r d old) (fun q => ?_) (fun q hq => ?_)
    lanes
  · obtain ⟨hshift, hx⟩ := (h.realign q).endable
    refine ⟨fun hpos => hshift (lt_of_lt_of_le hpos ?_), hx⟩
    rw [State.shiftLanded_outstanding, State.shiftsOutstanding]
    exact Nat.le_add_right _ _
  · have hne : r ≠ q := fun heq => hq (by simp [heq])
    refine State.realignOk_congr (s := s) rfl ?_ (h.realign q)
    rw [State.shiftLanded_outstanding, State.shiftsOutstanding, runs]
    simp [hne]

end

end Sys2Proof.Machine
end

section
/-! SUPPORT. Every row of the table keeps each realign SHIFTING exactly while a SHIFT of its reference waits
or runs (R94). -/

-- One proof at a time: the whole text elaborated at once does not fit the check's memory limit.
set_option Elab.async false

namespace Sys2Proof.Machine

theorem State.lanesOk.refsBound {s : State} (h : s.lanesOk) : s.refsBound := by
  intro l hu
  obtain ⟨-, -, -, -, -, hrefs, -⟩ := h.lane l
  exact boundRefs_of_none (hrefs.mpr hu)

theorem State.realignsOk.hold {s : State} (h : s.realignsOk) : RealignsHold s := by
  obtain ⟨hrealigns, hlanes⟩ := h
  exact ⟨hrealigns, hlanes.refsBound⟩

theorem RealignsHold.of_reset {t : State}
    (hq : t.engine.queue = State.reset.engine.queue := by rfl)
    (hj : t.engine.job = State.reset.engine.job := by rfl)
    (hr : t.realigns = State.reset.realigns := by rfl)
    (hl : t.lanes = State.reset.lanes := by rfl) : RealignsHold t :=
  realignsOk_reset.hold.same hq hj hr hl

/-- A command keeps the realign records if its owner's effect does. -/
theorem RealignsHold.command {k : Kind} {p : Port} {m : Message} {s t : State} {owner : State → Reply}
    (hs : RealignsHold s) (h : takeCommand k p m s owner = .next t)
    (ho : ∀ u, RealignsHold u → RealignsHold (owner u).after) : RealignsHold t :=
  takeCommand_after h hs hs.beginEvent (ho _ hs.beginEvent) fun _ _ _ _ hu => hu.same

theorem RealignsHold.keptCommand {k : Kind} {p : Port} {m : Message} {s t : State}
    {owner : State → Reply} (hs : RealignsHold s) (h : takeCommand k p m s owner = .next t)
    (ho : ∀ u, RealignsKept u (owner u).after) : RealignsHold t :=
  hs.command h fun u hu => (ho u).hold hu

/-- An event whose next state is `u`. -/
theorem RealignsHold.event {t u : State}
    (h : (Host.Outcome.next u : Host.Outcome State Fault Refusal) = .next t) (hu : RealignsHold u) :
    RealignsHold t := by
  cases h
  exact hu

/-! ## The owners' answers -/

section
variable (u : State)

theorem realignsKept_declareReply (r : RefId) :
    RealignsKept u (u.declareActive r) ∧ RealignsKept u (declareInactive u r).after := by
  rw [State.declareActive, declareInactive]
  refine ⟨?_, ?_⟩
  · split
    · exact (RealignsKept.refl u).same
    · exact .refl u
  · split
    · exact .refl u
    split
    · exact .refl u
    · exact (RealignsKept.refl u).same

/-- A REF FRAME writes the references, the trackers and the notices alone (R10, R11). -/
theorem realignsKept_frameReply (r : RefId) (e : Epoch) (f : Frame) :
    RealignsKept u (frameReply u r e f).after := by
  have counted : ∀ x, RealignsKept u (u.setRef r x) := fun _ => (RealignsKept.refl u).same
  simp only [frameReply]
  split
  · exact .refl u
  split
  · exact counted _
  split
  · exact counted _
  split
  · exact counted _
  split
  · exact .refl u
  · obtain ⟨hlanes, -, hrealigns, hengine, -⟩ := State.acceptReference_frame u r e f
    exact (RealignsKept.refl u).same (congrArg _ hengine) (congrArg _ hengine) hrealigns hlanes

theorem realignsKept_saveReply (l : LaneId) : RealignsKept u (saveReply u l).after := by
  have queued := (RealignsKept.refl u).request l (k := .save)
  rw [saveReply]
  split
  · exact .refl u
  · exact .refl u
  · exact .refl u
  · exact queued
  · exact queued
  · exact queued

theorem realignsKept_setModeRun (l : LaneId) : RealignsKept u (setModeRun u l).after := by
  simp only [setModeRun]
  split
  · exact .refl u
  · split
    · exact .refl u
    · exact (RealignsKept.refl u).setLane l (by simp)
  · exact .refl u
  · exact .refl u
  · exact .refl u
  · exact .refl u

theorem realignsKept_setModeBypass (l : LaneId) : RealignsKept u (setModeBypass u l).after := by
  have entered := (RealignsKept.refl u).enterBypass l
  rw [setModeBypass]
  split
  · exact .refl u
  · exact entered
  · exact entered
  · exact entered
  · exact .refl u
  · exact .refl u

theorem realignsKept_resizeReply (l : LaneId) (tail : Nat) :
    RealignsKept u (resizeReply u l tail).after := by
  have resized : ∀ st : Store,
      RealignsKept u ({ u with store := st }.setLane l (resizedLane (u.lane l) tail)) :=
    fun st => ((RealignsKept.refl u).withStore st).setLane_same l
  simp only [resizeReply]
  split
  · exact resized u.store
  split
  · split
    · exact .refl u
    · exact resized _
  · exact resized _

theorem realignsKept_writeReply (m : Message) (l : LaneId) (r : RefId) (start trueLength : Nat) :
    RealignsKept u (writeReply u m l r start trueLength).after := by
  simp only [writeReply]
  split
  · exact .refl u
  · exact ((RealignsKept.refl u).withStore _).setLane_same l

end

/-! ## Every row of the table -/

/-- Every row keeps the realign records as R94 says. A commit is made by SET DELAY and by a tracker that a
consumed frame is handed to; SHIFTs leave the queue or the engine at SHIFT_COMPLETE, UNBIND, RESET LANE and
the resets. -/
theorem exec_realignsHold {c : Instr} {s t : State} (hs : RealignsHold s) (h : exec c s = .next t) :
    RealignsHold t := by
  have begun := hs.beginEvent
  cases c with
  | powerOn | resetNAssert => exact .event h .of_reset
  | deviceReset p m => exact hs.command h fun u hu => onZero_after hu .of_reset
  | resetNRelease =>
    refine .event h ?_
    split
    · exact begun.same
    · exact begun.same
  | epochAdvance =>
    refine .event h ?_
    split
    · exact begun
    · exact (RealignsKept.refl _).advance.hold begun
  | epochResolution r =>
    refine .event h ?_
    split
    · exact (((RealignsKept.refl s).takeAction _).takeAction _).hold hs
    · exact hs
  | frameExpiry _ | lastAcceptedEpochAgeOut _ | retryCountdownEnd _ | holdCountdownEnd _
  | lastChangeAgeOut _ | onsetRecordAgeOut _ | lastSaveEpochAgeOut _ =>
    exact .event h (((RealignsKept.refl s).takeAction _).hold hs)
  | transactionTruncated _ | responseCut _ | responseSent _ | transactionEnd _ =>
    refine .event h ?_
    split
    · exact begun.same
    · exact begun
  | transactionStart c =>
    simp only [exec, execTransactionStart] at h
    split at h
    · cases h
    · refine .event h ?_
      split
      · exact begun
      · exact begun.same
  | unknownKind p code m =>
    simp only [exec, execUnknownKind] at h
    split at h
    · cases h
    split at h
    · exact .event h hs
    · exact .event h begun.same
  | passStart =>
    have started := hs.beginStart
    refine .event h ?_
    split
    · exact started
    · rename_i hstart
      exact started.startOldestPass (by simpa using (not_or.mp hstart).1)
  | maintenanceStart =>
    have started := hs.beginStart
    refine .event h ?_
    split
    · exact started
    · rename_i hstart
      exact started.startMaintenance (by simpa using (not_or.mp hstart).1)
  | passComplete =>
    refine .event h ?_
    split
    · exact begun.completePass (State.noShiftRuns_of_job ‹_›) _ _
    · exact begun
  | saveComplete =>
    refine .event h ?_
    split
    · exact begun.completeSave (State.noShiftRuns_of_job ‹_›) _ _ _ _
    · exact begun
  | restoreComplete =>
    refine .event h ?_
    split
    · exact begun.completeRestore (State.noShiftRuns_of_job ‹_›) _ _ _
    · exact begun
  | clearComplete =>
    refine .event h ?_
    split
    · exact begun.completeClear (State.noShiftRuns_of_job ‹_›) _
    · exact begun
  | shiftComplete =>
    refine .event h ?_
    split
    · exact begun.completeShift ‹_›
    · exact begun
  | scrubStart => exact .event h hs.beginScrub.settleScrubber
  | scrubComplete =>
    refine .event h ?_
    split
    · split
      · exact begun
      · exact begun.same
    · exact begun
  | declareRef p m =>
    refine hs.keptCommand h fun u => onRef_after (.refl u) fun r => ?_
    split
    · exact .refl u
    split
    · exact .refl u
    · exact (realignsKept_declareReply u r).1
    · exact (realignsKept_declareReply u r).2
  | refFrame p m =>
    refine hs.keptCommand h fun u => onRef_after (.refl u) fun r => ?_
    split
    · exact .refl u
    · exact realignsKept_frameReply u r _ _
  | refConfig p m | trackerConfig p m | historyRead p m =>
    refine hs.keptCommand h fun u => onRef_after (.refl u) fun r => ?_
    split
    · exact (RealignsKept.refl u).same
    · exact (RealignsKept.refl u).same
  | refStatus p m | trackerStatus p m | trackerClear p m =>
    exact hs.keptCommand h fun u => onRef_after (.refl u) fun r => (RealignsKept.refl u).same
  | setDelay p m =>
    exact hs.keptCommand h fun u => onRef_after (.refl u) fun r =>
      (RealignsKept.refl u).commit r (tuned_mem m 0 (Nat.zero_le 1023)).2 _
  | nop p m | engineStatus p m | noticeRead p m | noticeArm p m =>
    exact hs.keptCommand h fun u => onZero_after (.refl u) (RealignsKept.refl u).same
  | noticeConfig p m =>
    refine hs.keptCommand h fun u => onZero_after (.refl u) ?_
    split
    · exact .refl u
    split
    · exact .refl u
    · exact (RealignsKept.refl u).same
  | micFrame p m =>
    refine hs.keptCommand h fun u => onLane_after (.refl u) fun l => ?_
    split
    · exact .refl u
    · exact (RealignsKept.refl u).acceptMic l _
  | fetch p m =>
    refine hs.keptCommand h fun u => onBoundLane_after (.refl u) fun l => ?_
    split
    · exact .refl u
    · exact (RealignsKept.refl u).setLane_same l
  | dropCheckpoints p m =>
    refine hs.keptCommand h fun u => onBoundLane_after (.refl u) fun l => ?_
    split
    · exact .refl u
    · exact ((RealignsKept.refl u).withCheckpoints _).setLane_same l
  | setMode p m =>
    refine hs.keptCommand h fun u => onLane_after (.refl u) fun l => ?_
    split
    · exact .refl u
    · exact realignsKept_setModeRun u l
    · exact realignsKept_setModeBypass u l
  | bind p m =>
    refine hs.keptCommand h fun u => onLane_after (.refl u) fun l => ?_
    split
    · exact .refl u
    split
    · split
      · exact .refl u
      · exact ((RealignsKept.refl u).withStore _).setLane l (by simp [State.boundLane])
    · exact .refl u
  | unbind p m =>
    refine hs.command h fun u hu => onBoundLane_after hu fun l => ?_
    split
    · exact hu
    · exact hu.unbindLane (Bool.eq_false_iff.mpr ‹_›)
  | resize p m =>
    refine hs.keptCommand h fun u => onLane_after (.refl u) fun l => ?_
    split
    · exact .refl u
    split
    · exact .refl u
    split
    · exact .refl u
    · exact realignsKept_resizeReply u l _
  | resetLane p m => exact hs.command h fun u hu => onBoundLane_after hu fun l => hu.clearLane l
  | laneStatus p m | storeStatus p m | guardStatus p m =>
    exact hs.keptCommand h fun u => onLane_after (.refl u) fun l => .refl u
  | talkStatus p m | meterRead p m =>
    exact hs.keptCommand h fun u => onBoundLane_after (.refl u) fun l => .refl u
  | laneConfig p m | talkConfig p m | meterConfig p m =>
    exact hs.keptCommand h fun u => onBoundLane_after (.refl u) fun l =>
      (RealignsKept.refl u).setLane_same l
  | coeffRead p m =>
    refine hs.keptCommand h fun u => onLane_after (.refl u) fun l => ?_
    split
    · exact .refl u
    split
    · exact .refl u
    split
    · exact .refl u
    · rw [readReply_after]
      exact .refl u
  | coeffWrite p m =>
    refine hs.keptCommand h fun u => onLane_after (.refl u) fun l => ?_
    split
    · exact .refl u
    split
    · exact .refl u
    split
    · exact .refl u
    split
    · exact .refl u
    split
    · exact .refl u
    split
    · exact .refl u
    · exact realignsKept_writeReply u m l _ _ _
  | rearm p m =>
    refine hs.keptCommand h fun u => onLane_after (.refl u) fun l => ?_
    split
    · exact .refl u
    split
    · exact .refl u
    · exact (RealignsKept.refl u).setLane l (by simp [rearmedLane])
  | guardConfig p m =>
    refine hs.keptCommand h fun u => onLane_after (.refl u) fun l => ?_
    split
    · exact .refl u
    split
    · exact .refl u
    · exact (RealignsKept.refl u).setLane_same l
  | saveCheckpoint p m =>
    exact hs.keptCommand h fun u => onLane_after (.refl u) fun l => realignsKept_saveReply u l

/-- A step keeps the realign records, the part idle or not. -/
theorem step_realignsHold {s t : State} (hs : RealignsHold s) (h : step s = .next t) :
    RealignsHold t := by
  rw [step] at h
  split at h
  · exact .event h hs
  · rename_i rest _
    have dequeued : RealignsHold { s with pending := rest } := hs.same
    exact exec_realignsHold dequeued h

/-- Settles O57: a realign is SHIFTING exactly while a SHIFT of its reference waits or runs, and the lanes
stay as the chapters say. -/
theorem realignInvariantKept : Obligations.RealignInvariantKept := by
  intro s t hs h
  obtain ⟨-, hlanes⟩ := id hs
  exact ⟨(step_realignsHold hs.hold h).realign, laneInvariantKept s t hlanes h⟩

end Sys2Proof.Machine
end

section
/-! SUPPORT. The meter's window, its latch, the tests of the lock flag and the auto-save test (R113 to R116,
R132). -/

set_option Elab.async false

namespace Sys2Proof.Machine

/-! ## The window (R114, R115) -/

section
variable (m : Meter) (w em eo : Nat)

/-- A frame added under the window's own code is summed; under another the window restarts with it. -/
theorem meterAdd_eq : meterAdd m w em eo =
    { m with
      windowCode := w
      sumM := if w = m.windowCode then m.sumM + em else em
      sumO := if w = m.windowCode then m.sumO + eo else eo
      windowCount := if w = m.windowCode then m.windowCount + 1 else 1 } := by
  by_cases hw : w = m.windowCode
  · simp [meterAdd, hw]
  · simp [meterAdd, hw]

theorem windowFull_iff : windowFull m = true ↔ m.windowCount = 4 ^ m.windowCode := decide_eq_true_iff

/-- Shifting right by twice the window code is dividing by the window's size. -/
theorem windowReading_eq : windowReading m =
    { mic := m.sumM / 4 ^ m.windowCode, out := m.sumO / 4 ^ m.windowCode
      steps := lossSteps (m.sumM / 4 ^ m.windowCode) (m.sumO / 4 ^ m.windowCode) } := by
  have size : (2 : Nat) ^ (2 * m.windowCode) = 4 ^ m.windowCode := pow_mul 2 2 m.windowCode
  simp only [windowReading, size]

end

/-! ## The meter's step (R113 to R116) -/

section
variable (s : State) (l : LaneId) (start : Lane) (wasRun : Bool) (em eo : Nat)

/-- The meter of lane `l` with the energies of a pass made recent and its FAR frame added to the window. -/
def State.meterAdded : Meter :=
  meterAdd (meterRecent (s.lane l).meter em eo) start.meter.window em eo

theorem State.meterStep_of_not_far {t : TalkState} (ht : t ≠ .far) :
    s.meterStep l start wasRun t em eo =
      s.setLane l { s.lane l with meter := meterRecent (s.lane l).meter em eo } := if_neg ht

theorem State.meterStep_of_filling (h : ¬windowFull (s.meterAdded l start em eo)) :
    s.meterStep l start wasRun .far em eo =
      s.setLane l { s.lane l with meter := s.meterAdded l start em eo } := by
  rw [State.meterAdded] at h ⊢
  simp only [State.meterStep, State.meterWindow, State.lane_setLane_self, State.setLane_setLane, if_true,
    if_neg h]

theorem State.meterStep_of_full (h : windowFull (s.meterAdded l start em eo)) :
    s.meterStep l start wasRun .far em eo =
      let latched := s.setLane l { s.lane l with meter := meterLatch (s.meterAdded l start em eo) }
      let k := (windowReading (s.meterAdded l start em eo)).steps
      if wasRun then (latched.testLatch l start.meter k).autoSave l start.guard k else latched := by
  rw [State.meterAdded] at h ⊢
  simp only [State.meterStep, State.meterWindow, State.lane_setLane_self, State.setLane_setLane, if_true,
    if_pos h]

end

/-! ## The lock flag (R116) -/

theorem State.testLatch_eq (s : State) (l : LaneId) (start : Meter) (k : Nat) :
    s.testLatch l start k =
      if (s.lane l).lock = false ∧ start.lockLevel ≤ k then
        (s.setLane l { s.lane l with
          lock := true, guard := { (s.lane l).guard with tripCount := 0 } }).raise .erleLock l.val
      else if (s.lane l).lock = true ∧ k < start.lowLevel then s.raise .erleLow l.val
      else s := by
  cases hlock : (s.lane l).lock with
  | false => simp [State.testLatch, State.raiseLane, hlock]
  | true => simp [State.testLatch, State.raiseLane, hlock]

/-! ## The auto-save test (R132) -/

theorem saveIsOld_iff (last : Option Epoch) (now : Epoch) (interval : Nat) :
    saveIsOld last now interval = true ↔ ∀ e, last = some e → (interval : Int) ≤ behind now e := by
  cases last with
  | none => simp [saveIsOld]
  | some e => simp [saveIsOld]

theorem MaintEntry.isShift_eq_false (e : MaintEntry) :
    e.isShift = false ↔ ∀ r d, e.kind ≠ .shift r d := by
  obtain ⟨kind, l⟩ := e
  cases kind with
  | save | restore | clear => simp [MaintEntry.isShift]
  | shift r d => simp [MaintEntry.isShift]

theorem State.anyShiftWaiting_eq_false (s : State) (l : LaneId) : s.anyShiftWaiting l = false ↔
    ∀ e ∈ s.engine.queue, e.lane = l → ∀ r d, e.kind ≠ .shift r d := by
  simp only [State.anyShiftWaiting, List.any_eq_false, Bool.and_eq_true, beq_iff_eq, not_and,
    Bool.not_eq_true, MaintEntry.isShift_eq_false]

/-- A request other than a SHIFT, for a bound lane: it merges with its like or joins the queue (R61). -/
theorem State.request_of_bound {s : State} {l : LaneId} (hb : (s.lane l).state ≠ .unbound)
    {k : MaintKind} (hk : ∀ r d, k ≠ .shift r d) :
    s.request l k = if { kind := k, lane := l } ∈ s.engine.queue then s
      else { s with engine := { s.engine with
        queue := s.engine.queue ++ [{ kind := k, lane := l }] } } := by
  have waits : (s.engine.queue.any ({ kind := k, lane := l } : MaintEntry).sameAs = true) ↔
      { kind := k, lane := l } ∈ s.engine.queue := by
    simp [List.any_eq_true, MaintEntry.sameAs_iff_eq hk]
  simp only [State.request, hb, decide_false, Bool.false_or, waits]

/-- The six conditions of R132. -/
def State.saveAsked (s : State) (l : LaneId) (start : Guard) (k : Nat) : Prop :=
  (s.lane l).state = .run ∧ (s.lane l).lock = true ∧ start.saveLevel ≤ k ∧ start.autoSave = true
    ∧ (∀ e, (s.lane l).guard.lastSave = some e → (start.saveInterval : Int) ≤ behind s.epoch e)
    ∧ ∀ e ∈ s.engine.queue, e.lane = l → ∀ r d, e.kind ≠ .shift r d

section
variable {s : State} {l : LaneId} {start : Guard} {k : Nat}

theorem State.autoSave_of_not_asked (h : ¬s.saveAsked l start k) : s.autoSave l start k = s := by
  rw [State.saveAsked, ← saveIsOld_iff, ← State.anyShiftWaiting_eq_false] at h
  exact if_neg h

theorem State.autoSave_of_asked (h : s.saveAsked l start k) :
    s.autoSave l start k = s.request l .save := by
  rw [State.saveAsked, ← saveIsOld_iff, ← State.anyShiftWaiting_eq_false] at h
  exact if_pos h

end

/-- Settles O45: the window's outcomes, the tests of a latch and the auto-save test, each by its own
equations. -/
theorem meterWindowTable : Obligations.MeterWindowTable := by
  refine ⟨fun s l start wasRun em eo => ?_, State.testLatch_eq, fun s l start k => ⟨?_, fun hasked => ?_⟩⟩
  · intro x w kept m o n recent k latched
    have added : s.meterAdded l start em eo =
        { recent with windowCode := w, windowCount := n, sumM := m, sumO := o } := meterAdd_eq ..
    have full : windowFull (s.meterAdded l start em eo) = true ↔ n = 4 ^ w := by
      rw [windowFull_iff, added]
    refine ⟨fun t ht => s.meterStep_of_not_far l start wasRun em eo ht, fun hfilling => ?_,
      fun hfull => ?_⟩
    · rw [s.meterStep_of_filling l start wasRun em eo (full.not.mpr hfilling), added]
    · rw [s.meterStep_of_full l start wasRun em eo (full.mpr hfull), added]
      simp only [meterLatch, windowReading_eq]
      rfl
  · exact State.autoSave_of_not_asked
  · obtain ⟨hrun, -⟩ := id hasked
    have bound : (s.lane l).state ≠ .unbound := by simp [hrun]
    exact (State.autoSave_of_asked hasked).trans (State.request_of_bound bound (by simp))

end Sys2Proof.Machine
end

section
/-! SUPPORT. The Checkpoint Store once entries of a lane have been dropped (R131); REARM, SAVE CHECKPOINT,
DROP CHECKPOINTS and GUARD CONFIG (R129, R133, R136, R137). -/

set_option Elab.async false

namespace Sys2Proof.Machine

/-! ## Entries dropped (R131) -/

/-- `after` is `cs` once the entries `es` have been dropped: their slots are free, and no slot's contents
are written. -/
structure CheckpointStore.Drops (cs : CheckpointStore) (es : List Checkpoint) (after : CheckpointStore) :
    Prop where
  slots : after.slots = cs.slots
  free  : ∀ i : SlotId, after.free[i] = true ↔ cs.free[i] = true ∨ ∃ e ∈ es, i ∈ e.slots

theorem CheckpointStore.Drops.nil (cs : CheckpointStore) : cs.Drops [] cs := ⟨rfl, by simp⟩

theorem CheckpointStore.Drops.cons {cs after : CheckpointStore} {es : List Checkpoint}
    (h : cs.Drops es after) (e : Checkpoint) : cs.Drops (e :: es) (after.freeAll e.slots) := by
  obtain ⟨hslots, hfree⟩ := CheckpointStore.freeAll_facts e.slots after
  refine ⟨hslots.trans h.slots, fun i => ?_⟩
  simp only [hfree, h.free, List.exists_mem_cons_iff, or_assoc, or_comm]

theorem CheckpointStore.drops_freeStack (cs : CheckpointStore) (stack : List Checkpoint) :
    cs.Drops stack (freeStack cs stack) := by
  obtain ⟨hslots, hfree⟩ := CheckpointStore.freeAll_facts (stack.flatMap fun e => e.slots) cs
  exact ⟨hslots, fun i => (hfree i).trans (or_congr_right List.mem_flatMap)⟩

/-! ## What waits or runs for a lane -/

/-- A SAVE or a RESTORE of the lane waits or is in flight (R136). -/
theorem holdsOffDrop_iff (s : State) (l : LaneId) :
    s.holdsOffDrop l = true ↔ { kind := .save, lane := l } ∈ s.engine.queue
      ∨ { kind := .restore, lane := l } ∈ s.engine.queue
      ∨ (∃ y c e, s.engine.job = some (.save l y c e)) ∨ ∃ y c, s.engine.job = some (.restore l y c) := by
  have running : s.checkpointJobInFlight l = true ↔
      (∃ y c e, s.engine.job = some (.save l y c e)) ∨ ∃ y c, s.engine.job = some (.restore l y c) := by
    rw [State.checkpointJobInFlight]
    cases s.engine.job with
    | none => simp
    | some j => cases j <;> simp
  simp only [State.holdsOffDrop, State.waiting, Bool.or_eq_true, List.contains_iff_mem, running, or_assoc]

/-! ## SAVE CHECKPOINT (R133) -/

/-- A lane that is BYPASS, RUN or TRIPPED has a SAVE requested, which merges with one that waits. -/
theorem exec_saveCheckpoint_queued {m : Message} {s : State} {l : LaneId}
    (h : s.takes .saveCheckpoint .portS m) (hl : m.names l)
    (hst : (s.beginEvent.lane l).state = .bypass ∨ (s.beginEvent.lane l).state = .run
      ∨ (s.beginEvent.lane l).state = .tripped) :
    let u := s.beginEvent
    exec (.saveCheckpoint .portS m) s = .next
      (if { kind := .save, lane := l } ∈ u.engine.queue then u.respond .portS 0x81 .queued []
      else ({ u with engine := { u.engine with
        queue := u.engine.queue ++ [{ kind := .save, lane := l }] } } : State).respond
          .portS 0x81 .queued []) := by
  intro u
  have bound : (u.lane l).state ≠ .unbound := by
    obtain hx | hx | hx := hst <;> simp [u, hx]
  have requested : saveReply u l =
      { status := .queued, payload := [], after := u.request l .save } := by
    obtain hx | hx | hx := hst <;> simp only [u, saveReply, hx]
  refine (takeCommand_onLane h hl requested).trans ?_
  rw [State.request_of_bound bound (by simp)]
  split <;> rfl

/-! ## GUARD CONFIG (R137) -/

/-- GUARD CONFIG for a bound lane stores its guard fields and answers with them (R137). -/
theorem exec_guardConfig_bound {m : Message} {s : State} {l : LaneId} (h : s.takes .guardConfig .portS m)
    (hl : m.names l) (hflag : argNat m 7 ≤ 1) (hb : (s.beginEvent.lane l).state ≠ .unbound) :
    let u := s.beginEvent
    let x := u.lane l
    let g := configureGuard x.state x.guard m (decide (argNat m 7 = 1))
    exec (.guardConfig .portS m) s = .next ((u.setLane l { x with guard := g }).respond .portS 0x83
      (if guardClamped m then .clamped else .ok) (guardParameters g)) := by
  intro u x g
  exact takeCommand_onLane h hl
    (a := configured (guardClamped m) (guardParameters g) (u.setLane l { x with guard := g }))
    (by simp only [flagArg_le hflag]; exact if_neg hb)

/-! ## The commands -/

/-- Settles O47: the owners' answers, with the waiting and running work and the dropped entries' slots as
the lemmas above say. -/
theorem guardCommandsTable : Obligations.GuardCommandsTable := by
  refine ⟨fun m s l hl => ?_, fun m s l h hl => ?_⟩
  · intro u x
    refine ⟨fun h => ?_, fun h => ?_, fun h => ?_⟩
    · have clearing : (u.waiting l .clear || u.clearInFlight l) = true ↔
          { kind := .clear, lane := l } ∈ u.engine.queue ∨ u.engine.job = some (.clear l) := by
        rw [clearOutstanding_iff, exists_eq_right]
      by_cases hx : x.state = .lockout
      · rw [if_pos hx]
        split
        · rename_i hclear
          exact takeCommand_onLane h hl (a := refuse .busy u)
            ((if_neg (not_not.mpr hx)).trans (if_pos (clearing.mpr hclear)))
        · rename_i hclear
          exact takeCommand_onLane h hl (a := answer [] (u.setLane l (rearmedLane x)))
            ((if_neg (not_not.mpr hx)).trans (if_neg (clearing.not.mpr hclear)))
      · rw [if_neg hx]
        exact takeCommand_onLane h hl (a := refuse .wrongState u) (if_pos hx)
    · cases hx : x.state with
      | unbound | lockout =>
        exact takeCommand_onLane h hl (a := refuse .wrongState u) (by simp only [saveReply, u, x, hx])
      | clearing =>
        exact takeCommand_onLane h hl (a := refuse .busy u) (by simp only [saveReply, u, x, hx])
      | bypass => exact exec_saveCheckpoint_queued h hl (.inl hx)
      | run => exact exec_saveCheckpoint_queued h hl (.inr (.inl hx))
      | tripped => exact exec_saveCheckpoint_queued h hl (.inr (.inr hx))
    · intro held
      refine ⟨fun hu => ?_, fun hb hheld => ?_, fun hb hfree => ?_⟩
      · exact takeCommand_onUnboundLane h hl hu
      · exact takeCommand_onBoundLane h hl hb (a := refuse .busy u)
          (if_pos ((holdsOffDrop_iff u l).mpr hheld))
      · have dropped := u.checkpoints.drops_freeStack x.guard.stack
        refine ⟨freeStack u.checkpoints x.guard.stack, ?_, dropped.slots, dropped.free⟩
        exact takeCommand_onBoundLane h hl hb (a := answer [] (u.dropStack l))
          (if_neg ((holdsOffDrop_iff u l).not.mpr hfree))
  · intro u x v kept
    refine ⟨fun hbad => ?_, fun hflag hu => ?_, fun hflag hb => ?_⟩
    · exact takeCommand_onLane h hl (a := refuse .badArg u) (by simp only [flagArg_none hbad]; rfl)
    · exact takeCommand_onLane h hl (a := refuse .wrongState u)
        (by simp only [flagArg_le hflag]; exact if_pos hu)
    · have changed : guardClamped m = !(kept 0 0 3 && kept 1 1 15 && kept 2 1 255 && kept 3 0 15
          && kept 4 0 31 && kept 5 64 4096 && kept 6 1 4) := by
        simp only [guardClamped, clamped_eq _ _ _ _ (Nat.zero_le _), clamped_eq _ _ 1 15 (by decide),
          clamped_eq _ _ 1 255 (by decide), clamped_eq _ _ 64 4096 (by decide),
          clamped_eq _ _ 1 4 (by decide), Bool.not_and]
        rfl
      refine (exec_guardConfig_bound h hl hflag hb).trans ?_
      simp only [changed, Bool.not_eq_true', ← Bool.not_eq_true, ite_not, guardParameters]
      refine congrArg Host.Outcome.next (congrArg₂ (State.respond · .portS 0x83 _ ·) rfl ?_)
      rw [← flagWord_argNat hflag]
      rfl

end Sys2Proof.Machine
end

section
/-! SUPPORT. The completion of a SAVE: the entries dropped for its slots, and the entry pushed (R130, R131,
R134). -/

set_option Elab.async false

namespace Sys2Proof.Machine

/-! ## The slots free once entries have been dropped (R131) -/

/-- The free slots, lowest-numbered first, once the entries `es` have been dropped. -/
def CheckpointStore.freeWith (cs : CheckpointStore) (es : List Checkpoint) : List SlotId :=
  (List.finRange 96).filter fun i => cs.free[i] || es.any fun c => c.slots.contains i

section
variable {cs after : CheckpointStore} {es : List Checkpoint}

theorem CheckpointStore.freeWith_nil : cs.freeWith [] = cs.freeSlots := by
  simp [CheckpointStore.freeWith, CheckpointStore.freeSlots]

theorem CheckpointStore.mem_freeWith {i : SlotId} :
    i ∈ cs.freeWith es ↔ cs.free[i] = true ∨ ∃ e ∈ es, i ∈ e.slots := by
  simp [CheckpointStore.freeWith]

theorem CheckpointStore.nodup_freeWith : (cs.freeWith es).Nodup := (List.nodup_finRange 96).filter _

theorem CheckpointStore.Drops.mem_freeWith (h : cs.Drops es after) {i : SlotId} :
    i ∈ cs.freeWith es ↔ after.free[i] = true := CheckpointStore.mem_freeWith.trans (h.free i).symm

theorem CheckpointStore.Drops.freeSlots (h : cs.Drops es after) : after.freeSlots = cs.freeWith es := by
  refine List.filter_congr fun i _ => ?_
  rw [Bool.eq_iff_iff, h.free]
  simp

/-- Dropping entries frees no slot fewer. -/
theorem CheckpointStore.length_freeSlots_le (cs : CheckpointStore) (es : List Checkpoint) :
    cs.freeSlots.length ≤ (cs.freeWith es).length :=
  (List.monotone_filter_right _ fun _ hfree => by simp [hfree]).length_le

/-- Entries dropped free no more slots than they hold. -/
theorem CheckpointStore.length_freeWith_le (cs : CheckpointStore) (es : List Checkpoint) :
    (cs.freeWith es).length ≤ cs.freeSlots.length + (es.flatMap fun e => e.slots).length := by
  rw [← List.length_append]
  refine (CheckpointStore.nodup_freeWith.subperm fun i hi => ?_).length_le
  simpa [CheckpointStore.freeSlots] using CheckpointStore.mem_freeWith.mp hi

end

/-! ## Room for the entry (R134 steps 1 and 2) -/

theorem dropBottom_concat (cs : CheckpointStore) (stack : List Checkpoint) (e : Checkpoint) :
    dropBottom cs (stack ++ [e]) = (cs.freeAll e.slots, stack) := by
  simp [dropBottom]

/-- Step 2 of R134, after the entries `gone` have been dropped: bottom entries are dropped until enough
slots are free or none is left, and before each of them too few slots were free. -/
theorem makeRoom_drops (cs : CheckpointStore) (need : Nat) (stack : List Checkpoint) :
    ∀ (before : CheckpointStore) (gone : List Checkpoint), cs.Drops gone before →
      ∃ more, stack = (makeRoom need stack.length before stack).2 ++ more
        ∧ cs.Drops (more ++ gone) (makeRoom need stack.length before stack).1
        ∧ ((makeRoom need stack.length before stack).2 = []
          ∨ need ≤ (cs.freeWith (more ++ gone)).length)
        ∧ ∀ c rest, more = c :: rest → (cs.freeWith (rest ++ gone)).length < need := by
  induction stack using List.reverseRecOn with
  | nil => exact fun before gone h => ⟨[], rfl, h, .inl rfl, by simp⟩
  | append_singleton stack e ih =>
    intro before gone h
    rw [List.length_append, List.length_singleton, makeRoom, dropBottom_concat]
    split
    · rename_i hshort
      obtain ⟨hfew, -⟩ := hshort
      rw [h.freeSlots] at hfew
      obtain ⟨more, hsplit, hdrops, henough, hleast⟩ := ih _ _ (h.cons e)
      refine ⟨more ++ [e], ?_, by simpa using hdrops, by simpa using henough, fun c rest hmore => ?_⟩
      · rw [← List.append_assoc, ← hsplit]
      · cases more with
        | nil =>
          obtain ⟨-, rfl⟩ : e = c ∧ [] = rest := by simpa using hmore
          exact hfew
        | cons d more =>
          obtain ⟨rfl, rfl⟩ : d = c ∧ more ++ [e] = rest := by simpa using hmore
          simpa using hleast d more rfl
    · rename_i hroom
      refine ⟨[], by simp, h, .inr ?_, by simp⟩
      simpa [h.freeSlots] using hroom

/-- The Checkpoint Store and the stack after steps 1 and 2 of R134, for an entry of `need` slots. -/
def saveRoom (cs : CheckpointStore) (stack : List Checkpoint) (need : Nat) :
    CheckpointStore × List Checkpoint :=
  let top := if 4 ≤ stack.length then dropBottom cs stack else (cs, stack)
  makeRoom need top.2.length top.1 top.2

/-- What steps 1 and 2 of R134 do: the bottom entries `dropped` of `stack` go and `kept` stay. None is left,
or enough slots are free; and no entry goes that step 1 need not drop and step 2 can spare. -/
structure RoomMade (cs : CheckpointStore) (stack : List Checkpoint) (need : Nat)
    (kept dropped : List Checkpoint) (after : CheckpointStore) : Prop where
  split  : stack = kept ++ dropped
  drops  : cs.Drops dropped after
  enough : kept = [] ∨ need ≤ (cs.freeWith dropped).length
  depth  : stack.length ≤ 4 → kept.length < 4
  least  : ∀ c more, dropped = c :: more → more ≠ [] ∨ stack.length < 4 →
    (cs.freeWith more).length < need

theorem exists_roomMade (cs : CheckpointStore) (stack : List Checkpoint) (need : Nat) :
    ∃ kept dropped after, saveRoom cs stack need = (after, kept)
      ∧ RoomMade cs stack need kept dropped after := by
  suffices h : ∃ dropped, RoomMade cs stack need (saveRoom cs stack need).2 dropped
      (saveRoom cs stack need).1 from
    h.elim fun dropped room => ⟨_, dropped, _, rfl, room⟩
  rw [saveRoom]
  by_cases hfull : 4 ≤ stack.length
  · obtain rfl | ⟨rest, bottom, rfl⟩ := stack.eq_nil_or_concat'
    · simp at hfull
    rw [if_pos hfull, dropBottom_concat]
    dsimp only
    obtain ⟨more, hsplit, hdrops, henough, hleast⟩ :=
      makeRoom_drops cs need rest _ _ ((CheckpointStore.Drops.nil cs).cons bottom)
    refine ⟨more ++ [bottom], ?_, hdrops, henough, fun hlen => ?_, fun c tail hmore hneeded => ?_⟩
    · rw [← List.append_assoc, ← hsplit]
    · have hkept := congrArg List.length hsplit
      simp only [List.length_append, List.length_singleton] at hkept hlen
      omega
    · cases more with
      | nil =>
        obtain ⟨-, rfl⟩ : bottom = c ∧ [] = tail := by simpa using hmore
        exact hneeded.elim (absurd rfl) fun hlen => absurd hfull hlen.not_ge
      | cons d more =>
        obtain ⟨rfl, rfl⟩ : d = c ∧ more ++ [bottom] = tail := by simpa using hmore
        exact hleast d more rfl
  · rw [if_neg hfull]
    dsimp only
    obtain ⟨more, hsplit, hdrops, henough, hleast⟩ :=
      makeRoom_drops cs need stack cs [] (CheckpointStore.Drops.nil cs)
    simp only [List.append_nil] at hdrops henough hleast
    refine ⟨more, hsplit, hdrops, henough, fun _ => ?_, fun c tail hmore _ => hleast c tail hmore⟩
    have hkept := congrArg List.length hsplit
    rw [List.length_append] at hkept
    omega

section
variable {cs after : CheckpointStore} {stack kept dropped : List Checkpoint} {need : Nat}

/-- Where the free slots and the stack's own suffice, the room made suffices. -/
theorem RoomMade.need_le (room : RoomMade cs stack need kept dropped after)
    (h : need ≤ (cs.freeWith stack).length) : need ≤ (cs.freeWith dropped).length := by
  obtain hnone | hroom := room.enough
  · have hall : stack = dropped := by rw [room.split, hnone, List.nil_append]
    rwa [← hall]
  · exact hroom

/-- Where the free slots suffice, a stack that is not full keeps its entries. -/
theorem RoomMade.dropped_nil (room : RoomMade cs stack need kept dropped after)
    (hlen : stack.length < 4) (h : need ≤ cs.freeSlots.length) : dropped = [] := by
  cases dropped with
  | nil => rfl
  | cons c more =>
    have few := room.least c more rfl (.inr hlen)
    exact absurd (h.trans (cs.length_freeSlots_le more)) few.not_ge

/-- Where the free slots and the stack's own are too few, no entry is kept. -/
theorem RoomMade.kept_nil (room : RoomMade cs stack need kept dropped after)
    (h : cs.freeSlots.length + (stack.flatMap fun e => e.slots).length < need) : kept = [] := by
  refine room.enough.resolve_right (Nat.not_le.mpr ?_)
  have held := cs.length_freeWith_le dropped
  rw [room.split, List.flatMap_append, List.length_append] at h
  omega

end

/-- An entry's slots taken from the free ones, lowest-numbered first, and written in order (R134 step 3). -/
theorem CheckpointStore.Drops.writeAll {cs after : CheckpointStore} {dropped : List Checkpoint} {need : Nat}
    {parts : List Partition} (h : cs.Drops dropped after) (hneed : need ≤ (cs.freeWith dropped).length)
    (hparts : parts.length = need) :
    let taken := (cs.freeWith dropped).take need
    let written := after.writeAll (taken.zip parts)
    (∀ i : SlotId, written.free[i] = true ↔ i ∈ cs.freeWith dropped ∧ i ∉ taken)
      ∧ (∀ (n : Nat) (i : SlotId), taken[n]? = some i → parts[n]? = some written.slots[i])
      ∧ ∀ i : SlotId, i ∉ taken → written.slots[i] = cs.slots[i] := by
  intro taken written
  have hlen : taken.length = parts.length := by rw [hparts, List.length_take_of_le hneed]
  have hslots : (taken.zip parts).map Prod.fst = taken := List.map_fst_zip hlen.le
  have hnodup : ((taken.zip parts).map Prod.fst).Nodup := by
    rw [hslots]
    exact CheckpointStore.nodup_freeWith.sublist (List.take_sublist _ _)
  obtain ⟨hholds, hothers, hfree⟩ := CheckpointStore.writeAll_facts (taken.zip parts) after hnodup
  rw [hslots] at hothers hfree
  refine ⟨fun i => ?_, fun n i hn => ?_, fun i hi => ?_⟩
  · rw [hfree, h.mem_freeWith]
  · obtain ⟨hlt, hget⟩ := List.getElem?_eq_some_iff.mp hn
    have hin : (i, parts[n]) ∈ taken.zip parts :=
      List.mem_iff_getElem.mpr ⟨n, by simpa [← hlen] using hlt, by simp [hget]⟩
    rw [hholds _ hin, List.getElem?_eq_getElem]
  · rw [hothers i hi, h.slots]

/-! ## The completion of a SAVE (R134) -/

section
variable (s : State) (l : LaneId) (start : Lane) (chains : Chains) (e : Epoch)

/-- The slots that an entry of a lane takes (R130). -/
def slotsNeeded (start : Lane) : Nat := savedSpan start * (boundRefs start).length

/-- A SAVE skipped: `kept` and `cs` are what step 2 has left (R134). -/
def State.saveSkipped (kept : List Checkpoint) (cs : CheckpointStore) : State :=
  (({ s.setLane l { s.lane l with guard := { (s.lane l).guard with stack := kept } } with
    checkpoints := cs } : State).raiseLane .checkpointSkipped l).engineIdle

/-- The entry that a SAVE pushes, with the slots it has taken (R130, R134). -/
def savedEntry (g : Guard) (start : Lane) (e : Epoch) (taken : List SlotId) : Checkpoint :=
  { sequence := g.nextSequence, epoch := e, steps := start.meter.latched.map fun v => v.steps
    delays := start.delays, span := savedSpan start, slots := taken }

/-- An entry pushed with the slots `taken`: `kept` and `cs` are what step 2 has left (R134). -/
def State.savePushed (kept : List Checkpoint) (cs : CheckpointStore) (taken : List SlotId) : State :=
  ({ s.setLane l { s.lane l with guard := { (s.lane l).guard with
      stack := savedEntry (s.lane l).guard start e taken :: kept
      nextSequence := (s.lane l).guard.nextSequence + 1, lastSave := some e } } with
    checkpoints := cs.writeAll (taken.zip (savedParts start chains)) } : State).engineIdle

theorem State.completeSave_eq : s.completeSave l start chains e =
    let room := saveRoom s.checkpoints (s.lane l).guard.stack (slotsNeeded start)
    if room.1.freeSlots.length < slotsNeeded start then s.saveSkipped l room.2 room.1
    else s.savePushed l start chains e room.2 room.1 (room.1.freeSlots.take (slotsNeeded start)) :=
  apply_ite State.engineIdle _ _ _

variable {s l start chains e}

section
variable {kept dropped : List Checkpoint} {cs : CheckpointStore}
  (hmade : saveRoom s.checkpoints (s.lane l).guard.stack (slotsNeeded start) = (cs, kept))
  (hdrops : s.checkpoints.Drops dropped cs)
include hmade hdrops

theorem State.completeSave_pushed
    (hneed : slotsNeeded start ≤ (s.checkpoints.freeWith dropped).length) :
    s.completeSave l start chains e = s.savePushed l start chains e kept cs
      ((s.checkpoints.freeWith dropped).take (slotsNeeded start)) := by
  rw [State.completeSave_eq, hmade, ← hdrops.freeSlots]
  exact if_neg (by rw [hdrops.freeSlots]; exact hneed.not_gt)

theorem State.completeSave_skipped
    (hfew : (s.checkpoints.freeWith dropped).length < slotsNeeded start) :
    s.completeSave l start chains e = s.saveSkipped l kept cs := by
  rw [State.completeSave_eq, hmade]
  exact if_pos (by rw [hdrops.freeSlots]; exact hfew)

end

theorem exec_saveComplete (h : s.beginEvent.engine.job = some (.save l start chains e)) :
    exec .saveComplete s = .next (s.beginEvent.completeSave l start chains e) := by
  simp only [exec, execSaveComplete, h]

end

/-- Settles O41: the entries that make room for the slots, by `RoomMade`, and the entry pushed or the SAVE
skipped. -/
theorem saveCompletionTable : Obligations.SaveCompletionTable := by
  refine ⟨fun s l start chains e => ?_, fun s l start chains e => ?_, fun s l start chains e => ?_⟩
  · intro u x span need free parts hjob hlen hneed hparts
    obtain ⟨kept, dropped, cs, hmade, room⟩ := exists_roomMade u.checkpoints x.guard.stack need
    obtain rfl := room.dropped_nil hlen hneed
    obtain rfl : x.guard.stack = kept := by simpa using room.split
    have hnone : u.checkpoints.freeWith [] = free := CheckpointStore.freeWith_nil
    have enough : need ≤ (u.checkpoints.freeWith []).length := by rw [hnone]; exact hneed
    have pushed := State.completeSave_pushed (chains := chains) (e := e) hmade room.drops enough
    obtain ⟨hfree, hwritten, hothers⟩ := room.drops.writeAll enough hparts
    rw [hnone] at pushed hfree hwritten hothers
    refine ⟨_, (exec_saveComplete hjob).trans (congrArg _ pushed), State.lane_setLane_self ..,
      fun k hk => (State.lane_setLane ..).trans (if_neg hk), fun i => ?_, hwritten, hothers, rfl, rfl, rfl,
      rfl, rfl, rfl⟩
    refine (hfree i).trans (and_congr_left' ?_)
    simp [free]
  · intro u x held free hjob _ _ hfew
    obtain ⟨kept, dropped, cs, hmade, room⟩ := exists_roomMade u.checkpoints x.guard.stack
      (slotsNeeded start)
    obtain rfl := room.kept_nil hfew
    obtain rfl : x.guard.stack = dropped := room.split
    have skipped := State.completeSave_skipped (chains := chains) (e := e) hmade room.drops
      ((u.checkpoints.length_freeWith_le _).trans_lt hfew)
    refine ⟨_, (exec_saveComplete hjob).trans (congrArg _ skipped), State.lane_setLane_self ..,
      fun k hk => (State.lane_setLane ..).trans (if_neg hk), fun i => ?_, room.drops.slots, rfl, rfl, rfl⟩
    exact (room.drops.free i).trans (or_congr_right List.mem_flatMap.symm)
  · intro u x span need parts freeWith hjob hlen hneed hparts
    obtain ⟨kept, dropped, cs, hmade, room⟩ := exists_roomMade u.checkpoints x.guard.stack need
    have enough := room.need_le hneed
    have pushed := State.completeSave_pushed (chains := chains) (e := e) hmade room.drops enough
    obtain ⟨hfree, hwritten, hothers⟩ := room.drops.writeAll enough hparts
    exact ⟨_, kept, dropped, (exec_saveComplete hjob).trans (congrArg _ pushed), room.split,
      room.depth hlen, enough, room.least, State.lane_setLane_self ..,
      fun k hk => (State.lane_setLane ..).trans (if_neg hk), hfree, hwritten, hothers, rfl, rfl, rfl, rfl,
      rfl, rfl⟩

end Sys2Proof.Machine
end

section
/-! SUPPORT. The completion of a RESTORE: the chains written, and the entry popped (R106, R135). -/

set_option Elab.async false

namespace Sys2Proof.Machine

/-! ## Chains by their taps (R43, R106) -/

/-- Past the saved head a chain formed from it is zero, as `tapOf` reads the head itself. -/
theorem tapOf_formChain (head : List Partition) {n k : Nat} (hk : k < 256 * n) :
    tapOf (formChain n head) k = tapOf head k := by
  have hpos : k / 256 < n := by omega
  have hpart : (formChain n head).getD (k / 256) zeroPartition = head.getD (k / 256) zeroPartition := by
    simp [formChain, hpos]
  rw [tapOf, tapOf, hpart]

theorem tapOf_replicate_zeroPartition (n k : Nat) : tapOf (List.replicate n zeroPartition) k = 0 := by
  rw [tapOf, List.getD_eq_getElem?_getD, List.getElem?_getD_replicate_default_eq]
  simp [zeroPartition]

/-- A tap of a shifted chain is the tap `d` further on, or zero where the chain has none (R106). -/
theorem tapOf_shiftChain (old : List Partition) (d : Int) {k : Nat} (hk : k < 256 * old.length) :
    tapOf (shiftChain old d) k =
      if 0 ≤ (k : Int) + d ∧ (k : Int) + d < 256 * old.length then tapOf old ((k : Int) + d).toNat
      else 0 := by
  have hpos : k / 256 < (shiftChain old d).length := by
    rw [length_shiftChain]
    omega
  have htap : 256 * ((k / 256 : Nat) : Int) + ((k % 256 : Nat) : Int) = k := by omega
  rw [tapOf, List.getD_eq_getElem _ _ hpos, shiftChain_getElem, htap]

/-- A chain written from its head is read tap by tap, where the chain has the position. -/
theorem State.readTap_writeChains (s : State) (l : LaneId) (cs : Chains) (r : RefId) {k : Nat}
    (hk : k / 256 < (cs[r]).length) (hp : (s.store.partAt l r (k / 256)).isSome) :
    (s.writeChains l cs).store.readTap l r k = tapOf cs[r] k := by
  obtain ⟨hwritten, -, -⟩ := State.readPart_writeChains s l cs
  rw [Store.readTap, hwritten r _ hk hp, tapOf, List.getD_eq_getElem _ _ hk]

/-! ## The chains that a RESTORE writes (R135) -/

/-- How much further on each tap of the saved head for `r` was: the applied delay of the job's start less
the saved one (R135). -/
def restoredShift (start : Lane) (e : Checkpoint) (r : RefId) : Int :=
  (delayOf start r : Int) - (((e.delays[r]).getD 0 : Nat) : Int)

section
variable {start : Lane} (saved : Chains) {r : RefId} (hr : r ∈ boundRefs start)
include hr

theorem restoredChains_of_nil (hstack : start.guard.stack = []) :
    (restoredChains start saved)[r] = List.replicate (tailOf start) zeroPartition := by
  simp [restoredChains, hr, hstack]

theorem restoredChains_of_cons {e : Checkpoint} {rest : List Checkpoint}
    (hstack : start.guard.stack = e :: rest) :
    (restoredChains start saved)[r] =
      shiftChain (formChain (tailOf start) saved[r]) (restoredShift start e r) := by
  simp [restoredChains, hr, hstack, restoredShift]

theorem length_restoredChains : ((restoredChains start saved)[r]).length = tailOf start := by
  cases hstack : start.guard.stack with
  | nil => rw [restoredChains_of_nil saved hr hstack, List.length_replicate]
  | cons e rest =>
    rw [restoredChains_of_cons saved hr hstack, length_shiftChain, formChain, List.length_map,
      List.length_range]

theorem tapOf_restoredChains {e : Checkpoint} {rest : List Checkpoint}
    (hstack : start.guard.stack = e :: rest) {k : Nat} (hk : k < 256 * tailOf start) :
    tapOf (restoredChains start saved)[r] k =
      if 0 ≤ (k : Int) + restoredShift start e r ∧ (k : Int) + restoredShift start e r < 256 * tailOf start
      then tapOf saved[r] ((k : Int) + restoredShift start e r).toNat else 0 := by
  have hlen : (formChain (tailOf start) saved[r]).length = tailOf start := by simp [formChain]
  rw [restoredChains_of_cons saved hr hstack, tapOf_shiftChain _ _ (by rw [hlen]; exact hk), hlen]
  split
  · rename_i hin
    rw [tapOf_formChain _ (by omega)]
  · rfl

end

/-! ## The completion of a RESTORE (R135) -/

section
variable (s : State) (l : LaneId) (start : Lane) (saved : Chains)

theorem State.completeRestore_of_nil (h : start.guard.stack = []) :
    s.completeRestore l start saved = (s.writeChains l (restoredChains start saved)).engineIdle := by
  simp only [State.completeRestore, h]

/-- A stack that was not empty at the job's start loses its top entry, whose slots become free. -/
theorem State.completeRestore_of_cons {e c : Checkpoint} {rest more : List Checkpoint}
    (h : start.guard.stack = e :: rest) (hx : (s.lane l).guard.stack = c :: more) :
    s.completeRestore l start saved =
      let w := s.writeChains l (restoredChains start saved)
      ({ w.setLane l { s.lane l with guard := { (s.lane l).guard with stack := more } } with
        checkpoints := s.checkpoints.freeAll c.slots } : State).engineIdle := by
  have hw : ((s.writeChains l (restoredChains start saved)).lane l).guard.stack = c :: more := hx
  simp only [State.completeRestore, h, hw]
  rfl

/-- What a RESTORE leaves alone, besides the chains it writes. -/
theorem State.completeRestore_frame :
    let t := s.completeRestore l start saved
    t.store = (s.writeChains l (restoredChains start saved)).store
      ∧ (∀ k, k ≠ l → t.lane k = s.lane k) ∧ (t.lane l).delays = (s.lane l).delays
      ∧ t.ports = s.ports ∧ t.refs = s.refs ∧ t.realigns = s.realigns
      ∧ t.engine = { s.engine with job := none } ∧ t.epoch = s.epoch := by
  simp only [State.completeRestore]
  split
  · refine ⟨rfl, fun k hk => (State.lane_setLane ..).trans (if_neg hk), ?_, rfl, rfl, rfl, rfl, rfl⟩
    exact (congrArg Lane.delays (State.lane_setLane_self ..)).trans rfl
  · exact ⟨rfl, fun _ _ => rfl, rfl, rfl, rfl, rfl, rfl, rfl⟩

variable {s l start saved}

theorem exec_restoreComplete (h : s.beginEvent.engine.job = some (.restore l start saved)) :
    exec .restoreComplete s = .next (s.beginEvent.completeRestore l start saved) := by
  simp only [exec, execRestoreComplete, h]

end

/-- Settles O42: every tap of a chain is written from `restoredChains`, and the stack pops as
`completeRestore_of_cons` says. -/
theorem restoreCompletionWritesChains : Obligations.RestoreCompletionWritesChains := by
  intro s l start saved u x n hjob hpos
  obtain ⟨hstore, hlanes, hdelays, hframe⟩ := u.completeRestore_frame l start saved
  obtain ⟨-, -, hothers⟩ := State.readPart_writeChains u l (restoredChains start saved)
  have hread : ∀ r ∈ boundRefs start, ∀ k, k < n →
      (u.completeRestore l start saved).store.readTap l r k = tapOf (restoredChains start saved)[r] k := by
    intro r hr k hk
    have hpart : k / 256 < tailOf start := Nat.div_lt_of_lt_mul hk
    rw [hstore]
    exact u.readTap_writeChains l _ r (by rw [length_restoredChains saved hr]; exact hpart)
      (hpos r hr _ hpart)
  refine ⟨_, exec_restoreComplete hjob, fun hnil => ⟨fun r hr k hk => ?_, ?_⟩,
    fun e rest hcons => ⟨fun r hr k hk => ?_, fun c more hx => ?_⟩, hlanes, hdelays, ?_, fun p hp => ?_,
    hframe⟩
  · rw [hread r hr k hk, restoredChains_of_nil saved hr hnil, tapOf_replicate_zeroPartition]
  · rw [State.completeRestore_of_nil u l start saved hnil]
    exact ⟨rfl, rfl⟩
  · intro from'
    have hfrom : (k : Int) + restoredShift start e r = from' := (add_sub_assoc ..).symm
    rw [hread r hr k hk, tapOf_restoredChains saved hr hcons hk, hfrom]
    rfl
  · obtain ⟨-, hfree⟩ := CheckpointStore.freeAll_facts c.slots u.checkpoints
    rw [State.completeRestore_of_cons u l start saved hcons hx]
    exact ⟨State.lane_setLane_self .., hfree⟩
  · rw [hstore, ((Keeps.refl u).writeChains l _).map]
  · rw [hstore]
    exact hothers p hp

end Sys2Proof.Machine
end

section
/-! SUPPORT. The message rows: which owner answers each kind, how its target is checked, and what an
owner's answer leaves (R141, R142, R145 to R149). -/

namespace Sys2Proof.Machine

/-! ## What an owner's answer leaves (R142, R149) -/

/-- From `s` to `t` every port's decoder stays. -/
def SameDecoders (s t : State) : Prop := ∀ p, (t.port p).decoder = (s.port p).decoder

theorem SameDecoders.trans {s t u : State} (a : SameDecoders s t) (b : SameDecoders t u) :
    SameDecoders s u := fun p => (b p).trans (a p)

theorem sameDecoders_withStore (s : State) (st : Store) : SameDecoders s { s with store := st } :=
  fun _ => rfl

theorem Keeps.sameDecoders {s t : State} (h : Keeps s t) : SameDecoders s t := fun p => (h.port p).1

theorem Begun.sameDecoders {s t : State} (h : Begun s t) : SameDecoders s t := fun p => (h.port p).1

/-- The answer `a` of an owner of kind `k` in state `u`: a refusal has no payload and changes nothing,
the counters of REF FRAME apart (R149); no decoder changes, DEVICE RESET apart (R142, R154). -/
structure Fair (k : Kind) (u : State) (a : Reply) : Prop where
  refused  : k ≠ .refFrame → 0x10 ≤ (statusCode a.status).toNat → a.payload = [] ∧ a.after = u
  decoders : k ≠ .deviceReset → SameDecoders u a.after

section
variable {k : Kind} {u t : State} {a : Reply}

theorem Fair.refusal (k : Kind) (st : Status) (u : State) : Fair k u (refuse st u) :=
  ⟨fun _ _ => ⟨rfl, rfl⟩, fun _ _ => rfl⟩

/-- An answer whose status is no refusal. -/
theorem Fair.done {st : Status} {ws : List Word} (hst : (statusCode st).toNat < 0x10)
    (h : SameDecoders u t) : Fair k u { status := st, payload := ws, after := t } :=
  ⟨fun _ hle => absurd hst (Nat.not_lt.mpr hle), fun _ => h⟩

theorem Fair.accepted (ws : List Word) (h : SameDecoders u t) : Fair k u (answer ws t) :=
  .done (by decide) h

theorem Fair.report (k : Kind) (ws : List Word) (u : State) : Fair k u (answer ws u) :=
  .accepted ws fun _ => rfl

theorem Fair.stored (c : Bool) (ws : List Word) (h : SameDecoders u t) :
    Fair k u (configured c ws t) := by
  cases c
  · exact .done (by decide) h
  · exact .done (by decide) h

/-- An owner that refuses an UNBOUND lane. -/
theorem Fair.boundLane {l : LaneId} (h : Fair k u a) :
    Fair k u (if (u.lane l).state = .unbound then refuse .wrongState u else a) := by
  split
  · exact .refusal k _ u
  · exact h

end

/-! ## The owners' answers -/

section
variable (k : Kind) (u : State)

theorem fair_declareInactive (r : RefId) : Fair k u (declareInactive u r) := by
  rw [declareInactive]
  split
  · exact .report k _ u
  split
  · exact .refusal k _ u
  · exact .accepted _ (((Steady.refl u).setRef r _).setTracker r _).sameDecoders

theorem sameDecoders_declareActive (r : RefId) : SameDecoders u (u.declareActive r) := by
  rw [State.declareActive]
  split
  · exact ((Steady.refl u).setRef r _).sameDecoders
  · exact fun _ => rfl

/-- REF FRAME may count its refusal (R10). -/
theorem fair_frameReply (r : RefId) (e : Epoch) (f : Frame) : Fair .refFrame u (frameReply u r e f) := by
  refine ⟨fun h => absurd rfl h, fun _ => ?_⟩
  have counted := fun x => ((Steady.refl u).setRef r x).sameDecoders
  simp only [frameReply]
  split
  · exact fun _ => rfl
  split
  · exact counted _
  split
  · exact counted _
  split
  · exact counted _
  split
  · exact fun _ => rfl
  · exact ((Steady.refl u).acceptReference r e f).sameDecoders

theorem fair_setDelayReply (m : Message) (r : RefId) : Fair k u (setDelayReply u m r) := by
  refine .done ?_ ((Steady.refl u).commit r _ _).sameDecoders
  split
  · decide
  · cases (u.commit r (tuned m 0 0 1023) .portS).2 <;> decide

theorem fair_setModeRun (l : LaneId) : Fair k u (setModeRun u l) := by
  simp only [setModeRun]
  split
  · exact .report k _ u
  · split
    · exact .refusal k _ u
    · exact .accepted _ ((Steady.refl u).setLane l _ (by simp)).sameDecoders
  · exact .refusal k _ u
  · exact .refusal k _ u
  · exact .refusal k _ u
  · exact .refusal k _ u

theorem fair_setModeBypass (l : LaneId) : Fair k u (setModeBypass u l) := by
  have entered := Fair.accepted (k := k) [] ((Steady.refl u).enterBypass l).sameDecoders
  rw [setModeBypass]
  split
  · exact .report k _ u
  · exact entered
  · exact entered
  · exact entered
  · exact .refusal k _ u
  · exact .refusal k _ u

theorem sameDecoders_unbindLane (l : LaneId) : SameDecoders u (u.unbindLane l) :=
  (sameDecoders_withStore u _).trans (steady_unbindLane u l).sameDecoders

theorem fair_resizeReply (l : LaneId) (tail : Nat) : Fair k u (resizeReply u l tail) := by
  simp only [resizeReply]
  split
  · exact .accepted _ fun _ => rfl
  split
  · split
    · exact .refusal k _ u
    · exact .accepted _ fun _ => rfl
  · exact .accepted _ fun _ => rfl

theorem fair_saveReply (l : LaneId) : Fair k u (saveReply u l) := by
  have queued : SameDecoders u (u.request l .save) := ((Steady.refl u).request l .save).sameDecoders
  rw [saveReply]
  split
  · exact .refusal k _ u
  · exact .refusal k _ u
  · exact .refusal k _ u
  · exact .done (by decide) queued
  · exact .done (by decide) queued
  · exact .done (by decide) queued

theorem fair_readReply (l : LaneId) (r : RefId) (start n : Nat) :
    Fair k u (readReply u l r start n) := by
  simp only [readReply]
  split
  · exact .done (by decide) fun _ => rfl
  · exact .report k _ u

theorem fair_writeReply (m : Message) (l : LaneId) (r : RefId) (start n : Nat) :
    Fair k u (writeReply u m l r start n) := by
  simp only [writeReply]
  split
  · exact .done (by decide) fun _ => rfl
  · exact .accepted _ fun _ => rfl

end

/-! ## The owner of each kind, by the form of its target (section 9.4) -/

/-- The owner of a kind whose target is a reference. -/
theorem exists_refOwner {k : Kind} (hk : k ∈ refKinds) (p : Port) (m : Message) :
    ∃ f : State → RefId → Reply,
      (∀ s, exec (instrOfKind k p m) s = takeCommand k p m s fun u => onRef m u (f u))
        ∧ ∀ u r, Fair k u (f u r) := by
  cases k with
  | declareRef =>
    refine ⟨_, fun _ => rfl, fun u r => ?_⟩
    split
    · exact .refusal _ _ u
    split
    · exact .refusal _ _ u
    · exact .accepted _ (sameDecoders_declareActive u r)
    · exact fair_declareInactive _ u r
  | refFrame =>
    refine ⟨_, fun _ => rfl, fun u r => ?_⟩
    split
    · exact .refusal _ _ u
    · exact fair_frameReply u r _ _
  | refConfig =>
    refine ⟨_, fun _ => rfl, fun u r => ?_⟩
    split
    · exact .refusal _ _ u
    · exact .stored _ _ ((Steady.refl u).setRef r _).sameDecoders
  | refStatus | trackerStatus => exact ⟨_, fun _ => rfl, fun u r => .report _ _ u⟩
  | historyRead =>
    refine ⟨_, fun _ => rfl, fun u r => ?_⟩
    split
    · exact .refusal _ _ u
    · exact .report _ _ u
  | trackerConfig =>
    refine ⟨_, fun _ => rfl, fun u r => ?_⟩
    split
    · exact .stored _ _ ((Steady.refl u).setTracker r _).sameDecoders
    · exact .refusal _ _ u
  | trackerClear =>
    exact ⟨_, fun _ => rfl, fun u r => .accepted _ ((Steady.refl u).setTracker r _).sameDecoders⟩
  | setDelay => exact ⟨_, fun _ => rfl, fun u r => fair_setDelayReply _ u m r⟩
  | nop | micFrame | fetch | setMode | bind | unbind | resize | resetLane | laneStatus | coeffRead
  | coeffWrite | storeStatus | laneConfig | engineStatus | talkConfig | talkStatus | meterConfig
  | meterRead | rearm | saveCheckpoint | dropCheckpoints | guardConfig | guardStatus | noticeRead
  | noticeConfig | noticeArm | deviceReset => exact absurd hk (by decide)

/-- The owner of a kind whose target must be 0. -/
theorem exists_zeroOwner {k : Kind} (hk : k ∈ zeroKinds) (p : Port) (m : Message) :
    ∃ f : State → Reply,
      (∀ s, exec (instrOfKind k p m) s = takeCommand k p m s fun u => onZero m u (f u))
        ∧ ∀ u, Fair k u (f u) := by
  have notified := fun u n => ((Steady.refl u).setNotices p n).sameDecoders
  cases k with
  | nop | engineStatus => exact ⟨_, fun _ => rfl, fun u => .report _ _ u⟩
  | noticeRead | noticeArm => exact ⟨_, fun _ => rfl, fun u => .accepted _ (notified u _)⟩
  | noticeConfig =>
    refine ⟨_, fun _ => rfl, fun u => ?_⟩
    split
    · exact .refusal _ _ u
    split
    · exact .refusal _ _ u
    · exact .accepted _ (notified u _)
  | deviceReset =>
    refine ⟨_, fun _ => rfl, fun u => ⟨fun _ hst => ?_, fun h => absurd rfl h⟩⟩
    exact absurd hst (by decide : ¬0x10 ≤ (statusCode .ok).toNat)
  | declareRef | refFrame | refConfig | refStatus | historyRead | micFrame | fetch | setMode | bind
  | unbind | resize | resetLane | laneStatus | coeffRead | coeffWrite | storeStatus | laneConfig
  | talkConfig | talkStatus | trackerConfig | trackerClear | setDelay | trackerStatus | meterConfig
  | meterRead | rearm | saveCheckpoint | dropCheckpoints | guardConfig | guardStatus =>
    exact absurd hk (by decide)

/-- The owner of a kind whose target is a lane. -/
theorem exists_laneOwner {k : Kind} (hk : k ∈ laneKinds) (p : Port) (m : Message) :
    ∃ f : State → LaneId → Reply,
      (∀ s, exec (instrOfKind k p m) s = takeCommand k p m s fun u => onLane m u (f u))
        ∧ ∀ u l, Fair k u (f u l) := by
  cases k with
  | micFrame =>
    refine ⟨_, fun _ => rfl, fun u l => ?_⟩
    split
    · exact .refusal _ _ u
    · exact .accepted _ ((Steady.refl u).acceptMic l _).sameDecoders
  | fetch =>
    refine ⟨_, fun _ => rfl, fun u l => .boundLane ?_⟩
    dsimp only
    split
    · exact .refusal _ _ u
    · exact .accepted _ fun _ => rfl
  | setMode =>
    refine ⟨_, fun _ => rfl, fun u l => ?_⟩
    split
    · exact .refusal _ _ u
    · exact fair_setModeRun _ u l
    · exact fair_setModeBypass _ u l
  | bind =>
    refine ⟨_, fun _ => rfl, fun u l => ?_⟩
    split
    · exact .refusal _ _ u
    split
    · split
      · exact .refusal _ _ u
      · exact .accepted _ fun _ => rfl
    · exact .refusal _ _ u
  | unbind =>
    refine ⟨_, fun _ => rfl, fun u l => .boundLane ?_⟩
    dsimp only
    split
    · exact .refusal _ _ u
    · exact .accepted _ (sameDecoders_unbindLane u l)
  | resize =>
    refine ⟨_, fun _ => rfl, fun u l => ?_⟩
    split
    · exact .refusal _ _ u
    split
    · exact .refusal _ _ u
    split
    · exact .refusal _ _ u
    · exact fair_resizeReply _ u l _
  | resetLane =>
    exact ⟨_, fun _ => rfl, fun u l =>
      .boundLane (.done (by decide) ((Steady.refl u).clearLane l).sameDecoders)⟩
  | laneStatus | storeStatus | guardStatus => exact ⟨_, fun _ => rfl, fun u l => .report _ _ u⟩
  | talkStatus | meterRead => exact ⟨_, fun _ => rfl, fun u l => .boundLane (.report _ _ u)⟩
  | coeffRead =>
    refine ⟨_, fun _ => rfl, fun u l => ?_⟩
    split
    · exact .refusal _ _ u
    split
    · exact .refusal _ _ u
    split
    · exact .refusal _ _ u
    · exact fair_readReply _ u l _ _ _
  | coeffWrite =>
    refine ⟨_, fun _ => rfl, fun u l => ?_⟩
    split
    · exact .refusal _ _ u
    split
    · exact .refusal _ _ u
    split
    · exact .refusal _ _ u
    split
    · exact .refusal _ _ u
    split
    · exact .refusal _ _ u
    split
    · exact .refusal _ _ u
    · exact fair_writeReply _ u m l _ _ _
  | laneConfig | talkConfig | meterConfig =>
    exact ⟨_, fun _ => rfl, fun u l => .boundLane (.stored _ _ fun _ => rfl)⟩
  | rearm =>
    refine ⟨_, fun _ => rfl, fun u l => ?_⟩
    split
    · exact .refusal _ _ u
    split
    · exact .refusal _ _ u
    · exact .accepted _ fun _ => rfl
  | saveCheckpoint => exact ⟨_, fun _ => rfl, fun u l => fair_saveReply _ u l⟩
  | dropCheckpoints =>
    refine ⟨_, fun _ => rfl, fun u l => .boundLane ?_⟩
    dsimp only
    split
    · exact .refusal _ _ u
    · exact .accepted _ fun _ => rfl
  | guardConfig =>
    refine ⟨_, fun _ => rfl, fun u l => ?_⟩
    split
    · exact .refusal _ _ u
    split
    · exact .refusal _ _ u
    · exact .stored _ _ fun _ => rfl
  | nop | declareRef | refFrame | refConfig | refStatus | historyRead | engineStatus | trackerConfig
  | trackerClear | setDelay | trackerStatus | noticeRead | noticeConfig | noticeArm | deviceReset =>
    exact absurd hk (by decide)

/-- Every kind's target is a lane, a reference or 0 (section 9.4). -/
theorem mem_kinds (k : Kind) : k ∈ laneKinds ∨ k ∈ refKinds ∨ k ∈ zeroKinds := by
  cases k <;> decide

theorem Fair.laneTarget {k : Kind} {u : State} {m : Message} {f : LaneId → Reply}
    (h : ∀ l, Fair k u (f l)) : Fair k u (onLane m u f) := by
  rw [onLane]
  split
  · exact .refusal k _ u
  · exact h _

theorem Fair.refTarget {k : Kind} {u : State} {m : Message} {f : RefId → Reply}
    (h : ∀ r, Fair k u (f r)) : Fair k u (onRef m u f) := by
  rw [onRef]
  split
  · exact .refusal k _ u
  · exact h _

theorem Fair.zeroTarget {k : Kind} {u : State} {m : Message} {a : Reply} (h : Fair k u a) :
    Fair k u (onZero m u a) := by
  rw [onZero_eq]
  split
  · exact h
  · exact .refusal k _ u

/-- Every kind's row is the taking of its command, and its owner answers as `Fair` says. -/
theorem exists_owner (k : Kind) (p : Port) (m : Message) :
    ∃ owner : State → Reply,
      (∀ s, exec (instrOfKind k p m) s = takeCommand k p m s owner) ∧ ∀ u, Fair k u (owner u) := by
  obtain hk | hk | hk := mem_kinds k
  · obtain ⟨f, hf, hfair⟩ := exists_laneOwner hk p m
    exact ⟨_, hf, fun u => .laneTarget (hfair u)⟩
  · obtain ⟨f, hf, hfair⟩ := exists_refOwner hk p m
    exact ⟨_, hf, fun u => .refTarget (hfair u)⟩
  · obtain ⟨f, hf, hfair⟩ := exists_zeroOwner hk p m
    exact ⟨_, hf, fun u => .zeroTarget (hfair u)⟩

/-- Settles O5: whatever answered, the port's checks or the owner, refused as `Fair` says. -/
theorem refusalsChangeNothing : Obligations.RefusalsChangeNothing := by
  intro k p m s t hk hawait h
  obtain ⟨owner, hexec, hfair⟩ := exists_owner k p m
  rw [hexec] at h
  obtain ⟨hno, -⟩ | ⟨-, st, -, ht⟩ | ⟨-, ht⟩ := takeCommand_next h
  · exact absurd hawait (Bool.eq_false_iff.mp hno)
  · exact ⟨st, [], s.beginEvent, ht, fun _ => ⟨rfl, rfl⟩⟩
  · exact ⟨_, _, _, ht, (hfair _).refused hk⟩

/-! ## The port's checks (R145, R147, R148) -/

/-- COEFF WRITE accepts three words and 1 to 128 pairs of words (section 9.4). -/
theorem acceptsLength_coeffWrite (n : Nat) :
    acceptsLength .coeffWrite n = true ↔ ∃ j, 1 ≤ j ∧ j ≤ 129 ∧ n = 2 * j + 1 := by
  simp only [acceptsLength, Bool.and_eq_true, beq_iff_eq, decide_eq_true_eq]
  refine ⟨fun ⟨⟨hodd, hlo⟩, hhi⟩ => ⟨n / 2, by omega, by omega, by omega⟩, ?_⟩
  rintro ⟨j, hlo, hhi, rfl⟩
  omega

/-- Settles O4: the role table and the lengths kind by kind, the refusals by `takeCommand`'s checks, the
targets by the form that each kind's owner has. -/
theorem portChecksRefuse : Obligations.PortChecksRefuse := by
  refine ⟨⟨fun k => ?_, fun k => ?_, fun k => ?_, fun k p m s hw hd ho => ?_⟩,
    ⟨fun k n => ?_, fun k n => ?_, fun k p m s hw hd ho hl => ?_⟩,
    mem_kinds, fun k p m s h => ⟨fun hk ht => ?_, fun hk ht => ?_, fun hk ht => ?_⟩⟩
  · cases k <;> decide
  · cases k <;> decide
  · cases k <;> decide
  · obtain ⟨owner, hexec, -⟩ := exists_owner k p m
    rw [hexec, takeCommand_wrongPort hw hd ho]
  · cases k <;> simp [acceptsLength] <;> omega
  · by_cases hk : k = .coeffWrite
    · subst hk
      simp [acceptsLength_coeffWrite]
    · cases k <;> simp [acceptsLength] at hk ⊢
  · obtain ⟨owner, hexec, -⟩ := exists_owner k p m
    rw [hexec, takeCommand_badLength hw hd ho hl]
  · obtain ⟨f, hexec, -⟩ := exists_laneOwner hk p m
    rw [hexec, takeCommand_taken h, onLane_none ht]
    rfl
  · obtain ⟨f, hexec, -⟩ := exists_refOwner hk p m
    rw [hexec, takeCommand_taken h, onRef_none ht]
    rfl
  · obtain ⟨f, hexec, -⟩ := exists_zeroOwner hk p m
    rw [hexec, takeCommand_taken h, onZero_eq, if_neg ht]
    rfl

end Sys2Proof.Machine
end

section
/-! SUPPORT. The words of a command read back, the taking of the queue's front, every row's answer, and
the responses that stand (R140 to R142, R147, R151). -/

namespace Sys2Proof.Machine

/-! ## The words of a command (R141, R147, section 9.8) -/

theorem kindOfCode_kindCode (k : Kind) : kindOfCode (kindCode k) = some k := by
  cases k <;> decide

/-- The payload words that a command takes: none at a declared length above 260 (R147). -/
theorem length_payload {m : Message} (h : messageComplete m = true) :
    m.payload.length = if m.declared.toNat ≤ Config.maxPayload then m.declared.toNat else 0 := by
  rw [messageComplete] at h
  split
  · rwa [if_pos ‹_›, beq_iff_eq] at h
  · rwa [if_neg ‹_›, List.isEmpty_iff_length_eq_zero] at h

/-- The words of a command are read back, whatever words follow them. -/
theorem decodeCommand_commandWords (p : Port) (code : Byte) {m : Message} (more : List Word)
    (h : messageComplete m = true) :
    decodeCommand p (commandWords code m ++ more) =
      some ((kindOfCode code).elim (.unknownKind p code m) fun k => instrOfKind k p m) := by
  simp only [decodeCommand, commandWords, List.cons_append, ← length_payload h,
    BitVec.extractLsb'_append_eq_left, BitVec.extractLsb'_append_eq_right, List.length_append,
    List.take_left, Nat.not_lt.mpr (Nat.le_add_right _ _), if_false]
  cases kindOfCode code <;> rfl

/-- Settles O60: the words are read back by their code, which names the kind or none. -/
theorem commandWordsReadBack : Obligations.CommandWordsReadBack := by
  refine fun p m more h => ⟨fun k => ?_, fun code hcode => ?_⟩
  · rw [decodeCommand_commandWords p _ more h, kindOfCode_kindCode]
    rfl
  · rw [decodeCommand_commandWords p _ more h, hcode]
    rfl

/-! ## The step (R151) -/

/-- Settles O1: the step's branch of a queue that is not empty. -/
theorem stepTakesFrontCommand : Obligations.StepTakesFrontCommand := fun _ _ _ => rfl

/-! ## Every row is answered (R145, R149) -/

/-- A command whose words are complete is answered or ignored; any other term is refused. -/
theorem takeCommand_completes (k : Kind) (p : Port) (m : Message) (s : State)
    (owner : State → Reply) :
    (m.wellFormed = true → ∃ t, takeCommand k p m s owner = .next t)
      ∧ (m.wellFormed = false → takeCommand k p m s owner = .refused .illFormed) := by
  refine ⟨fun hw => ?_, fun hw => takeCommand_illFormed hw owner⟩
  cases hd : (s.port p).decoder.awaits (kindCode k) m
  · exact ⟨s, takeCommand_ignored hw hd owner⟩
  cases ho : openTo k p
  · exact ⟨_, takeCommand_wrongPort hw hd ho owner⟩
  cases hl : acceptsLength k m.declared.toNat
  · exact ⟨_, takeCommand_badLength hw hd ho hl owner⟩
  · exact ⟨_, takeCommand_taken ⟨hw, hd, ho, hl⟩ owner⟩

/-- An event that is a row in every state has a next state. -/
theorem completes_of_next {c : Instr} {s t : State} (hc : c.wellFormed = true) (h : exec c s = .next t) :
    (c.wellFormed = true → ∃ t, exec c s = .next t)
      ∧ (c.wellFormed = false → exec c s = .refused .illFormed) :=
  ⟨fun _ => ⟨t, h⟩, fun hno => absurd hc (Bool.eq_false_iff.mp hno)⟩

/-- Settles O3: the message rows by `takeCommand`, TRANSACTION_START and UNKNOWN_KIND by their own check of
the term, and every other row always has a next state. -/
theorem everyCommandCompletes : Obligations.EveryCommandCompletes := by
  intro c s
  cases c with
  | transactionStart c =>
    simp only [Instr.wellFormed, exec, execTransactionStart]
    cases decodeCommand c.port c.words <;> simp
  | unknownKind p code m =>
    simp only [Instr.wellFormed, exec, execUnknownKind]
    cases kindOfCode code with
    | some k => simp
    | none =>
      cases m.wellFormed
      · simp
      · cases (s.port p).decoder.awaits code m <;> simp
  | powerOn | resetNAssert | resetNRelease | epochAdvance | epochResolution | frameExpiry
  | lastAcceptedEpochAgeOut | retryCountdownEnd | holdCountdownEnd | lastChangeAgeOut
  | onsetRecordAgeOut | lastSaveEpochAgeOut | transactionTruncated | responseCut | passStart
  | maintenanceStart | passComplete | saveComplete | restoreComplete | clearComplete | shiftComplete
  | scrubStart | scrubComplete | responseSent | transactionEnd => exact completes_of_next rfl rfl
  | nop p m | declareRef p m | refFrame p m | refConfig p m | refStatus p m | historyRead p m
  | micFrame p m | fetch p m | setMode p m | bind p m | unbind p m | resize p m | resetLane p m
  | laneStatus p m | coeffRead p m | coeffWrite p m | storeStatus p m | laneConfig p m
  | engineStatus p m | talkConfig p m | talkStatus p m | trackerConfig p m | trackerClear p m
  | setDelay p m | trackerStatus p m | meterConfig p m | meterRead p m | rearm p m
  | saveCheckpoint p m | dropCheckpoints p m | guardConfig p m | guardStatus p m | noticeRead p m
  | noticeConfig p m | noticeArm p m | deviceReset p m => exact takeCommand_completes _ p m s _

/-! ## A formed response stands (R142) -/

/-- Words clocked in RESPONDING never leave a decoder in COMMAND. -/
theorem Decoder.isPartial_clockAll_responding (p : Port) (words : List Word) :
    ∀ w, ((Decoder.responding w).clockAll words).isPartial p = false := by
  induction words with
  | nil => exact fun _ => rfl
  | cons x xs ih =>
    intro w
    match w with
    | [] | [_] =>
      rw [Decoder.clockAll, Decoder.clock, Decoder.clockAll_draining]
      · rfl
      · simp
    | _ :: v :: rest => exact ih (v :: rest)

/-- The response `w` stands on port `p`. -/
def State.Responding (s : State) (p : Port) (w : List Word) : Prop :=
  (s.port p).decoder = .responding w

section
variable {s t : State} {p q : Port} {w : List Word}

theorem State.Responding.of_same (h : s.Responding p w) (hd : SameDecoders s t) : t.Responding p w :=
  (hd p).trans h

theorem State.Responding.beginEvent (h : s.Responding p w) : s.beginEvent.Responding p w :=
  h.of_same (begun_beginEvent s).sameDecoders

theorem State.Responding.setPort (h : s.Responding p w) (hq : p ≠ q) (x : PortState) :
    (s.setPort q x).Responding p w := by
  rwa [State.Responding, State.port_setPort, if_neg hq]

theorem State.Responding.raise (h : s.Responding p w) (k : NoticeKind) (n : Nat) :
    (s.raise k n).Responding p w := by
  rwa [State.Responding, State.raise_port]

/-- A port whose decoder awaits a command is not responding. -/
theorem State.Responding.ne_of_awaits (h : s.Responding p w) {code : Byte} {m : Message}
    (hq : (s.port q).decoder.awaits code m = true) : p ≠ q := by
  rintro rfl
  rw [show (s.port p).decoder = .responding w from h] at hq
  cases hq

/-- No command other than DEVICE RESET changes a response: it forms one of its own port's alone (R142). -/
theorem State.Responding.command (h : s.Responding p w) (k : Kind) {m : Message}
    (ht : exec (instrOfKind k q m) s = .next t) (hk : k ≠ .deviceReset := by decide) :
    t.Responding p w := by
  obtain ⟨owner, hexec, hfair⟩ := exists_owner k q m
  rw [hexec] at ht
  obtain ⟨-, rfl⟩ | ⟨hawait, st, -, rfl⟩ | ⟨⟨-, hawait, -⟩, rfl⟩ := takeCommand_next ht
  · exact h
  · exact h.beginEvent.setPort (h.ne_of_awaits hawait) _
  · exact (h.beginEvent.of_same ((hfair _).decoders hk)).setPort (h.ne_of_awaits hawait) _

/-- The next state of an event. -/
theorem State.Responding.event {u : State}
    (h : (Host.Outcome.next u : Host.Outcome State Fault Refusal) = .next t) (hu : u.Responding p w) :
    t.Responding p w := by
  cases h
  exact hu

/-- Every row keeps a response but a reset and the RESPONSE_SENT and RESPONSE_CUT of its own port. -/
theorem exec_responding {c : Instr} (hs : s.Responding p w) (hreset : isReset c = false)
    (hsent : ∀ n, c ≠ .responseSent { port := p, count := n }) (hcut : c ≠ .responseCut p)
    (h : exec c s = .next t) : t.Responding p w := by
  have begun := hs.beginEvent
  have keeps := Keeps.refl s.beginEvent
  have steady := Steady.refl s.beginEvent
  have started := (Steady.refl s).beginStart
  have acted := fun a => hs.of_same ((Steady.refl s).takeAction a).sameDecoders
  cases c with
  | powerOn | resetNAssert | deviceReset _ _ => cases hreset
  | resetNRelease =>
    refine .event h ?_
    split
    · exact begun
    · exact begun
  | epochAdvance =>
    refine .event h ?_
    split
    · exact begun
    · exact begun
  | epochResolution r =>
    refine .event h ?_
    split
    · exact hs.of_same (((Steady.refl s).takeAction _).takeAction _).sameDecoders
    · exact hs
  | frameExpiry _ | lastAcceptedEpochAgeOut _ | retryCountdownEnd _ | holdCountdownEnd _
  | lastChangeAgeOut _ | onsetRecordAgeOut _ | lastSaveEpochAgeOut _ => exact .event h (acted _)
  | transactionTruncated c =>
    refine .event h ?_
    split
    · rename_i hpart
      have hne : p ≠ c.port := by
        rintro rfl
        rw [show (s.beginEvent.port c.port).decoder = .responding w from begun,
          Decoder.isPartial_clockAll_responding] at hpart
        cases hpart
      exact ((begun.setPort hne _).setPort hne _).raise _ _
    · exact begun
  | responseCut q =>
    refine .event h ?_
    split
    · exact begun.setPort (fun hq => hcut (hq ▸ rfl)) _
    · exact begun
  | responseSent c =>
    refine .event h ?_
    split
    · exact begun.setPort (fun hq => hsent c.count (hq ▸ rfl)) _
    · exact begun
  | transactionEnd q =>
    refine .event h ?_
    split
    · rename_i hend
      refine begun.setPort (fun hq => ?_) _
      rw [← hq, show (s.beginEvent.port p).decoder = .responding w from begun] at hend
      simp at hend
    · exact begun
  | transactionStart c =>
    simp only [exec, execTransactionStart] at h
    split at h
    · cases h
    refine .event h ?_
    split
    · exact begun
    · rename_i hwait
      refine begun.setPort (fun hq => hwait (.inr ?_)) _
      rw [← hq, show (s.beginEvent.port p).decoder = .responding w from begun]
      simp
  | unknownKind q code m =>
    simp only [exec, execUnknownKind] at h
    split at h
    · cases h
    split at h
    · exact .event h hs
    · rename_i hawait
      have hne : p ≠ q := hs.ne_of_awaits (by simpa using hawait)
      exact .event h (((begun.setPort hne _).raise _ _).setPort hne _)
  | passStart =>
    refine .event h ?_
    split
    · exact hs.of_same started.sameDecoders
    · exact hs.of_same started.startOldestPass.sameDecoders
  | maintenanceStart =>
    refine .event h ?_
    split
    · exact hs.of_same started.sameDecoders
    · exact hs.of_same started.startMaintenance.sameDecoders
  | passComplete =>
    refine .event h ?_
    split
    · exact begun.of_same (keeps.completePass _ _).sameDecoders
    · exact begun
  | saveComplete =>
    refine .event h ?_
    split
    · exact begun.of_same (steady.completeSave _ _ _ _).sameDecoders
    · exact begun
  | restoreComplete =>
    refine .event h ?_
    split
    · exact begun.of_same (keeps.completeRestore _ _ _).sameDecoders
    · exact begun
  | clearComplete =>
    refine .event h ?_
    split
    · exact begun.of_same (keeps.completeClear _).sameDecoders
    · exact begun
  | shiftComplete =>
    refine .event h ?_
    split
    · exact begun.of_same (keeps.completeShift _ _ _ _).sameDecoders
    · exact begun
  | scrubStart => exact .event h begun
  | scrubComplete =>
    refine .event h ?_
    split
    · split
      · exact begun
      · exact begun
    · exact begun
  | nop => exact hs.command .nop h
  | declareRef => exact hs.command .declareRef h
  | refFrame => exact hs.command .refFrame h
  | refConfig => exact hs.command .refConfig h
  | refStatus => exact hs.command .refStatus h
  | historyRead => exact hs.command .historyRead h
  | micFrame => exact hs.command .micFrame h
  | fetch => exact hs.command .fetch h
  | setMode => exact hs.command .setMode h
  | bind => exact hs.command .bind h
  | unbind => exact hs.command .unbind h
  | resize => exact hs.command .resize h
  | resetLane => exact hs.command .resetLane h
  | laneStatus => exact hs.command .laneStatus h
  | coeffRead => exact hs.command .coeffRead h
  | coeffWrite => exact hs.command .coeffWrite h
  | storeStatus => exact hs.command .storeStatus h
  | laneConfig => exact hs.command .laneConfig h
  | engineStatus => exact hs.command .engineStatus h
  | talkConfig => exact hs.command .talkConfig h
  | talkStatus => exact hs.command .talkStatus h
  | trackerConfig => exact hs.command .trackerConfig h
  | trackerClear => exact hs.command .trackerClear h
  | setDelay => exact hs.command .setDelay h
  | trackerStatus => exact hs.command .trackerStatus h
  | meterConfig => exact hs.command .meterConfig h
  | meterRead => exact hs.command .meterRead h
  | rearm => exact hs.command .rearm h
  | saveCheckpoint => exact hs.command .saveCheckpoint h
  | dropCheckpoints => exact hs.command .dropCheckpoints h
  | guardConfig => exact hs.command .guardConfig h
  | guardStatus => exact hs.command .guardStatus h
  | noticeRead => exact hs.command .noticeRead h
  | noticeConfig => exact hs.command .noticeConfig h
  | noticeArm => exact hs.command .noticeArm h

end

/-- Settles O6: every row keeps a response but those the statement names. -/
theorem formedResponseStands : Obligations.FormedResponseStands :=
  fun _ _ _ _ _ hs hreset hsent hcut h => exec_responding hs hreset hsent hcut h

end Sys2Proof.Machine
end

section
/-! SUPPORT. The transaction events of a port, a code that names no kind, NOP, and DEVICE RESET with the
events that fall together with it (R140 to R146, R153, R154, R164). -/

namespace Sys2Proof.Machine

/-! ## The transaction events (R140, R141, R143, R144) -/

section
variable {p : Port} {s : State}

theorem exec_transactionStart {words : List Word} (hw : decodeCommand p words = none)
    (hlow : s.beginEvent.resetLow = false) (hwait : (s.beginEvent.port p).decoder = .wait) :
    exec (.transactionStart { port := p, words := words }) s =
      .next (s.beginEvent.setDecoder p (.command words)) := by
  simp [exec, execTransactionStart, hw, hlow, hwait, Decoder.clockAll_command]

/-- The words clocked out leave the response; after the last one the decoder is in DRAINING. -/
theorem exec_responseSent {w : Word} {ws : List Word}
    (h : (s.beginEvent.port p).decoder = .responding (w :: ws)) (n : Nat) :
    exec (.responseSent { port := p, count := n }) s =
      .next (s.beginEvent.setDecoder p
        (if ws.length < n then .draining else .responding ((w :: ws).drop n))) := by
  simp only [exec, execResponseSent, h, Decoder.isResponding, if_true,
    Decoder.clockAll_responding _ _ (List.cons_ne_nil w ws), List.length_replicate,
    List.length_cons, Nat.succ_le_iff]

theorem exec_responseCut {ws : List Word} (h : (s.beginEvent.port p).decoder = .responding ws) :
    exec (.responseCut p) s = .next (s.beginEvent.setDecoder p .wait) := by
  simp [exec, execResponseCut, h, Decoder.isResponding]

theorem exec_transactionEnd
    (h : (s.beginEvent.port p).decoder = .draining ∨ (s.beginEvent.port p).decoder = .command []) :
    exec (.transactionEnd p) s = .next (s.beginEvent.setDecoder p .wait) := by
  simp only [exec, execTransactionEnd, if_pos h]

/-- A truncated transaction returns the decoder to WAIT, is counted, and is raised (R143). -/
theorem exec_transactionTruncated {received words : List Word}
    (h : (s.beginEvent.port p).decoder = .command received) (hne : received ++ words ≠ [])
    (hw : decodeCommand p (received ++ words) = none) :
    exec (.transactionTruncated { port := p, words := words }) s = .next
      ((s.beginEvent.setPort p { s.beginEvent.port p with
          decoder := .wait, truncated := countUp (s.beginEvent.port p).truncated 1 }).raise
        .portFault (portIndex p).val) := by
  have hpart : ((s.beginEvent.port p).decoder.clockAll words).isPartial p = true := by
    rw [h, Decoder.clockAll_command, Decoder.isPartial, hw]
    simpa using hne
  simp only [exec, execTransactionTruncated, if_pos hpart, State.setDecoder, State.countTruncated,
    State.setPort_setPort, State.port_setPort_self]

end

/-! ## A code that names no kind (R146) -/

theorem exec_unknownKind {p : Port} {code : Byte} {m : Message} {s : State}
    (hcode : kindOfCode code = none) (hw : m.wellFormed = true)
    (hd : (s.port p).decoder.awaits code m = true) :
    exec (.unknownKind p code m) s = .next
      (((s.beginEvent.countUnknown p).raise .portFault (portIndex p).val).respond p code .unknown
        []) := by
  simp [exec, execUnknownKind, hcode, hw, hd]

/-- Settles O8: each event by its own equation, the response by its words. -/
theorem transactionEventsTable : Obligations.TransactionEventsTable := by
  refine ⟨fun p s => ⟨fun words => exec_transactionStart, fun w ws h => ⟨exec_responseSent h,
      exec_responseCut h⟩, exec_transactionEnd⟩, fun p s received words h hne hw => ?_,
    ⟨by decide, fun p code m s hcode hw hd => ?_⟩, fun p s code st ws => ?_, rfl, fun _ => rfl,
    fun _ _ => rfl, rfl⟩
  · cases p <;> exact exec_transactionTruncated h hne hw
  · cases p <;> exact exec_unknownKind hcode hw hd
  · exact State.respond_decoder s p code st ws

/-! ## NOP (R153) -/

/-- Settles O9: NOP's owner, on a target of 0 and on any other. -/
theorem nopAnswersPortAndEpoch : Obligations.NopAnswersPortAndEpoch := by
  refine ⟨fun _ => rfl, fun n => beq_iff_eq, fun p m s h => ?_⟩
  have taken : exec (.nop p m) s = _ :=
    takeCommand_taken h fun u => onZero m u (answer [wordOf (portIndex p).val, u.epoch] u)
  rw [taken, onZero_eq]
  split
  · cases p <;> rfl
  · rfl

/-! ## A part whose blocks are at rest -/

theorem State.ports_ext {s t : State} (h : ∀ p, s.port p = t.port p) : s.ports = t.ports :=
  Vector.ext fun i hi =>
    match i, hi with
    | 0, _ => h .portR
    | 1, _ => h .portM
    | 2, _ => h .portS

/-- A part whose lines drive no pulse has none to end. -/
theorem State.endPulses_of_unpulsed {s : State} (h : ∀ p, (s.port p).notices.line ≠ .pulsed) :
    s.endPulses = s := by
  refine State.endPulses_of_ports (State.ports_ext fun p => ?_)
  rw [State.endPulses_port, if_neg (h p)]

/-- No lane at reset is ready, and no entry waits: the arbiter starts nothing. -/
theorem State.arbitrate_of_reset {s : State} (hl : s.lanes = State.reset.lanes)
    (he : s.engine = State.reset.engine) : s.arbitrate = s := by
  have idle : s.readyLanes = [] := by
    refine List.filter_eq_nil_iff.mpr fun l _ => ?_
    simp [State.ready, State.lane, hl, State.reset, headEpoch, Lane.reset]
  simp [State.arbitrate, he, State.reset, Engine.reset, State.startOldestPass, idle, State.oldest]

/-- With every partition in SCRUB the scrubber starts on partition 0 (R49). -/
theorem Store.startScrub_of_reset {st : Store} (h : st.map = Store.reset.map) :
    st.startScrub = { st with scrub := some 0 } := by
  have every : st.scrubParts = allParts := by
    refine List.filter_eq_self.mpr fun p _ => ?_
    simp [h, Store.reset]
  rw [Store.startScrub, every]
  rfl

/-! ## DEVICE RESET (R154) -/

section
variable (u : State)

theorem State.deviceReset_store :
    u.deviceReset.store =
      { map := Vector.replicate 384 .scrub, coefs := u.store.coefs, scrub := some 0 } :=
  Store.startScrub_of_reset (st := u.resetPart.store) rfl

/-- Port R and Port M keep the record of a reset port, their transactions abandoned (R154). -/
theorem State.deviceReset_port (p : Port) :
    u.deviceReset.port p = { PortState.reset with
      decoder := if p = .portS then .wait else abandoned (u.port p).decoder } := by
  cases p <;> rfl

/-- A transaction in progress is abandoned: the rest of it is ignored until CSN rises (R154). -/
theorem abandoned_eq (d : Decoder) : abandoned d = if d = .wait then .wait else .draining := by
  cases d <;> rfl

/-- DEVICE RESET on Port S, its target 0 (R154). -/
theorem exec_deviceReset {m : Message} {s : State} (h : s.takes .deviceReset .portS m)
    (hm : m.target = 0) :
    exec (.deviceReset .portS m) s =
      .next (s.beginEvent.deviceReset.respond .portS 0xE0 .ok []) := by
  have taken : exec (.deviceReset .portS m) s = _ :=
    takeCommand_taken h fun u => onZero m u (answer [] u.deviceReset)
  rw [taken, onZero_eq, if_pos hm]
  rfl

end

/-! ## The events that fall together with DEVICE RESET (R164) -/

/-- What DEVICE RESET leaves in the fields that the events right after it read. -/
structure DeviceWasReset (s : State) : Prop where
  epoch   : s.epoch = 0
  due     : s.due = []
  lanes   : s.lanes = State.reset.lanes
  engine  : s.engine = State.reset.engine
  scrub   : s.store.scrub = some 0
  notices : ∀ p, (s.port p).notices = Notices.reset

theorem deviceWasReset (u : State) (code : Byte) (st : Status) (ws : List Word) :
    DeviceWasReset (u.deviceReset.respond .portS code st ws) := by
  refine ⟨rfl, rfl, rfl, rfl, ?_, fun p => ?_⟩
  · exact congrArg Store.scrub u.deviceReset_store
  · rw [State.respond_notices, State.deviceReset_port]
    rfl

section
variable {t : State} (h : DeviceWasReset t)
include h

theorem DeviceWasReset.endPulses : t.endPulses = t :=
  State.endPulses_of_unpulsed fun p => by
    rw [h.notices p]
    decide

theorem DeviceWasReset.settleScrubber : t.settleScrubber = t := by
  simp [State.settleScrubber, h.scrub]

/-- The part stays so when the next event is taken. -/
theorem DeviceWasReset.next : DeviceWasReset { t with scrubAbandoned := false } :=
  ⟨h.epoch, h.due, h.lanes, h.engine, h.scrub, h.notices⟩

/-- The event after a DEVICE RESET finds the part as the reset left it. -/
theorem DeviceWasReset.beginEvent : t.beginEvent = { t with scrubAbandoned := false } := by
  have settled : t.settleEpoch = { t with scrubAbandoned := false } := by
    rw [State.settleEpoch, h.due, State.actAll, ← h.due]
  rw [State.beginEvent, State.beginScrub, State.beginStart, settled, h.next.endPulses,
    State.arbitrate_of_reset h.next.lanes h.next.engine, h.next.endPulses, h.next.settleScrubber]

/-- No job is in flight any more: no completion is taken. -/
theorem DeviceWasReset.completion_ignored {c : Instr}
    (hc : c ∈ [Instr.passComplete, .saveComplete, .restoreComplete, .clearComplete, .shiftComplete]) :
    exec c t = .next { t with scrubAbandoned := false } := by
  have idle : t.engine.job = none := by rw [h.engine]; rfl
  simp only [List.mem_cons, List.not_mem_nil, or_false] at hc
  obtain rfl | rfl | rfl | rfl | rfl := hc
  · simp only [exec, execPassComplete, h.beginEvent, idle]
  · simp only [exec, execSaveComplete, h.beginEvent, idle]
  · simp only [exec, execRestoreComplete, h.beginEvent, idle]
  · simp only [exec, execClearComplete, h.beginEvent, idle]
  · simp only [exec, execShiftComplete, h.beginEvent, idle]

/-- The completion of the scrub that the reset abandoned is not taken (log 10). -/
theorem DeviceWasReset.scrubComplete_ignored (ha : t.scrubAbandoned = true) :
    exec .scrubComplete t = .next { t with scrubAbandoned := false } := by
  simp only [exec, execScrubComplete, h.beginEvent, h.scrub, ha, if_true]

/-- An FSYNC edge right after the reset makes E equal to 1. -/
theorem DeviceWasReset.epochAdvance (hlow : t.resetLow = false) :
    ∃ v, exec .epochAdvance t = .next v ∧ v.epoch = 1 ∧ v.lanes = State.reset.lanes
      ∧ v.refs = t.refs ∧ v.engine = State.reset.engine ∧ v.store = t.store := by
  refine ⟨({ t with scrubAbandoned := false } : State).advance, ?_, ?_, ?_, rfl, ?_, rfl⟩
  · rw [exec_epochAdvance, h.beginEvent, if_neg (by rw [hlow]; exact Bool.false_ne_true)]
  · rw [State.advance_epoch]
    exact congrArg (· + 1) h.epoch
  · refine State.lanes_ext fun l => ?_
    have hl : ({ t with scrubAbandoned := false } : State).lane l = Lane.reset := by
      rw [State.lane, h.lanes]
      exact State.reset_lane l
    rw [State.advance_lane, hl, State.reset_lane]
    rfl
  · exact congrArg (fun e : Engine => { e with budget := Config.budget }) h.engine

end

/-- No command is awaited in WAIT or in DRAINING. -/
theorem exec_unawaited {k : Kind} {p : Port} {m : Message} {s : State} (hw : m.wellFormed = true)
    (hd : (s.port p).decoder = .wait ∨ (s.port p).decoder = .draining) :
    exec (instrOfKind k p m) s = .next s := by
  obtain ⟨owner, hexec, -⟩ := exists_owner k p m
  rw [hexec]
  refine takeCommand_ignored hw ?_ owner
  obtain hd | hd := hd <;> rw [hd] <;> rfl

/-- Settles O12: the part that DEVICE RESET leaves, field by field, and then the events that find it so. -/
theorem deviceResetResetsThePart : Obligations.DeviceResetResetsThePart := by
  intro m s h hm u
  have reset := deviceWasReset u 0xE0 .ok []
  have others : ∀ p, p ≠ .portS → ((u.deviceReset.respond .portS 0xE0 .ok []).port p).decoder =
      if (u.port p).decoder = .wait then .wait else .draining := fun p hp => by
    rw [State.respond_port, if_neg hp, State.deviceReset_port, if_neg hp, abandoned_eq]
  refine ⟨_, exec_deviceReset h hm, rfl, rfl, rfl, rfl, rfl, rfl, u.deviceReset_store, rfl,
    State.respond_decoder .., others, fun p => ?_, rfl, rfl, rfl, fun k p m' hp hw => ?_,
    fun c => reset.completion_ignored, fun hscrub => reset.scrubComplete_ignored ?_,
    reset.epochAdvance⟩
  · cases p <;> exact ⟨rfl, rfl, rfl⟩
  · refine exec_unawaited hw ?_
    rw [others p hp]
    split
    · exact .inl rfl
    · exact .inr rfl
  · exact Option.isSome_iff_ne_none.mpr hscrub

end Sys2Proof.Machine
end

section
/-! SUPPORT. The notice state of one port: reading order (R161), the line by mode (R160), and what each
operation makes of the invariant that R158 to R161 state. -/

set_option Elab.async false

namespace Sys2Proof.Machine

/-! ## Reading order (R157, R161) -/

/-- The twelve kinds in the order of their priority numbers (R157). -/
def noticeKinds : List NoticeKind :=
  [.laneLockout, .laneTrip, .refStall, .delayHunt, .refResume, .delaySet, .erleLow, .erleLock,
   .outputOverrun, .frameExpired, .checkpointSkipped, .portFault]

theorem noticeKinds_priorities :
    noticeKinds.map noticePriority = [1, 2, 3, 4, 5, 6, 7, 8, 9, 10, 11, 12] := rfl

theorem noticeKinds_at_priority (k : NoticeKind) : noticeKinds[noticePriority k - 1]? = some k := by
  cases k <;> rfl

theorem noticePriority_le (k : NoticeKind) : noticePriority k ≤ 12 := by
  cases k <;> decide

/-- No two kinds share a priority number. -/
theorem noticePriority_injective : Function.Injective noticePriority := fun j k h => by
  have found := noticeKinds_at_priority j
  rw [h, noticeKinds_at_priority k] at found
  exact (Option.some.inj found).symm

theorem noticeBefore_iff (x y : Notice) :
    noticeBefore x y = true ↔ noticePriority x.kind < noticePriority y.kind
      ∨ noticePriority x.kind = noticePriority y.kind ∧ x.source < y.source := by
  simp [noticeBefore]

theorem noticeBefore_trans {x y z : Notice} (h : noticeBefore x y = true)
    (k : noticeBefore y z = true) : noticeBefore x z = true := by
  rw [noticeBefore_iff] at *
  omega

/-- Of two different notices one is read before the other. -/
theorem noticeBefore_of_ne {x y : Notice} (hne : x ≠ y) (h : noticeBefore x y ≠ true) :
    noticeBefore y x = true := by
  rw [ne_eq, noticeBefore_iff] at h
  rw [noticeBefore_iff]
  have differ : noticePriority x.kind = noticePriority y.kind → x.source ≠ y.source :=
    fun hp hs => hne (congrArg₂ Notice.mk (noticePriority_injective hp) hs)
  omega

theorem insertNotice_eq_orderedInsert (x : Notice) (l : List Notice) :
    insertNotice x l = l.orderedInsert (fun a b => noticeBefore a b = true) x := by
  induction l with
  | nil => rfl
  | cons y ys ih => simp only [insertNotice, List.orderedInsert, ih]

theorem insertNotice_perm (x : Notice) (l : List Notice) : (insertNotice x l).Perm (x :: l) := by
  rw [insertNotice_eq_orderedInsert]
  exact List.perm_orderedInsert _ x l

theorem mem_insertNotice {x y : Notice} {l : List Notice} :
    y ∈ insertNotice x l ↔ y = x ∨ y ∈ l := by
  rw [(insertNotice_perm x l).mem_iff, List.mem_cons]

theorem insertNotice_ne_nil (x : Notice) (l : List Notice) : insertNotice x l ≠ [] :=
  List.ne_nil_of_mem (mem_insertNotice.mpr (.inl rfl))

/-- A notice that is not pending takes its place in reading order. -/
theorem insertNotice_pairwise {x : Notice} {l : List Notice} (hx : x ∉ l)
    (h : l.Pairwise fun a b => noticeBefore a b = true) :
    (insertNotice x l).Pairwise fun a b => noticeBefore a b = true := by
  induction l with
  | nil => exact List.pairwise_singleton _ x
  | cons y ys ih =>
    obtain ⟨hy, hys⟩ := List.pairwise_cons.mp h
    obtain ⟨hne, hnew⟩ := List.ne_and_not_mem_of_not_mem_cons hx
    rw [insertNotice]
    split
    · rename_i hxy
      refine List.pairwise_cons.mpr ⟨fun z hz => ?_, h⟩
      obtain rfl | hz := List.mem_cons.mp hz
      · exact hxy
      · exact noticeBefore_trans hxy (hy z hz)
    · rename_i hxy
      refine List.pairwise_cons.mpr ⟨fun z hz => ?_, ih hnew hys⟩
      obtain rfl | hz := mem_insertNotice.mp hz
      · exact noticeBefore_of_ne hne hxy
      · exact hy z hz

/-! ## The line (R160) -/

theorem levelLine_eq (armed : Bool) (pending : List Notice) :
    levelLine armed pending = if armed = true ∧ pending ≠ [] then .asserted else .released := by
  simp [levelLine]

/-- The invariant with the line of LEVEL mode by its own function (R158 to R161). -/
theorem Notices.ok_iff (n : Notices) :
    n.ok ↔ n.pending.Pairwise (fun a b => noticeBefore a b = true)
      ∧ (∀ x ∈ n.pending, kindEnabled n x.kind = true)
      ∧ (n.mode = .level → n.line = levelLine n.armed n.pending)
      ∧ (n.mode = .pulse → n.line ≠ .asserted) := by
  have level : (n.line = .asserted ↔ n.armed = true ∧ n.pending ≠ []) ∧ n.line ≠ .pulsed
      ↔ n.line = levelLine n.armed n.pending := by
    rw [levelLine_eq]
    cases n.line <;> split <;> simp_all
  rw [Notices.ok, level]

/-! ## The operations on one port's notice state -/

section
variable {n : Notices}

/-- Raising a notice keeps the invariant (R159, R160). -/
theorem Notices.ok.raised (h : n.ok) (x : Notice) : (raiseOnPort x n).ok := by
  rw [raiseOnPort_eq]
  split
  · rename_i hnew
    obtain ⟨henabled, hx⟩ := hnew
    obtain ⟨hordered, hkinds, -, hpulse⟩ := n.ok_iff.mp h
    refine (Notices.ok_iff _).mpr ⟨insertNotice_pairwise hx hordered, fun y hy => ?_,
      fun hmode => ?_, fun hmode => ?_⟩
    · obtain rfl | hy := mem_insertNotice.mp hy
      · exact henabled
      · exact hkinds y hy
    · simp only at hmode
      simp only [hmode]
    · simp only at hmode
      simp only [hmode]
      split
      · decide
      · exact hpulse hmode
  · exact h

/-- The end of a pulse keeps the invariant: only a line of PULSE mode is pulsed (R160). -/
theorem Notices.ok.pulseEnded (h : n.ok) :
    ({ n with line := if n.line = .pulsed then .released else n.line } : Notices).ok := by
  obtain ⟨hordered, hkinds, hlevel, hpulse⟩ := h
  refine ⟨hordered, hkinds, fun hmode => ?_, fun hmode => ?_⟩
  · rw [if_neg (hlevel hmode).2]
    exact hlevel hmode
  · split
    · exact Line.noConfusion
    · exact hpulse hmode

/-- What NOTICE READ leaves, said once (R160, R161). -/
theorem readNotices_eq (n : Notices) :
    readNotices n = { n with
      pending := n.pending.drop 16, armed := false
      line := if n.mode = .level then .released else n.line } := by
  rw [readNotices]
  cases n.mode <;> rfl

/-- NOTICE READ keeps the invariant (R160, R161). -/
theorem Notices.ok.read (h : n.ok) : (readNotices n).ok := by
  obtain ⟨hordered, hkinds, -, hpulse⟩ := n.ok_iff.mp h
  rw [readNotices_eq]
  refine (Notices.ok_iff _).mpr ⟨hordered.sublist (List.drop_sublist _ _),
    fun x hx => hkinds x (List.mem_of_mem_drop hx), fun hmode => ?_, fun hmode => ?_⟩
  · exact if_pos hmode
  · split
    · exact Line.noConfusion
    · exact hpulse hmode

/-- What NOTICE ARM leaves, said once (R160, R162). -/
theorem armNotices_eq (n : Notices) :
    armNotices n =
      if n.armed then n
      else { n with
        armed := true
        line := match n.mode with
          | .level => levelLine true n.pending
          | .pulse => if n.pending = [] then n.line else .pulsed
        pulses := if n.mode = .pulse ∧ n.pending ≠ [] ∧ n.line ≠ .pulsed then n.pulses + 1
          else n.pulses } := by
  rcases n with ⟨enabled, pending, armed, mode, line, pulses⟩
  cases mode
  · simp [armNotices]
  · cases pending <;> cases line <;> simp [armNotices, drivePulse]

/-- NOTICE ARM keeps the invariant (R160, R162). -/
theorem Notices.ok.armedAgain (h : n.ok) : (armNotices n).ok := by
  rw [armNotices_eq]
  split
  · exact h
  · obtain ⟨hordered, hkinds, -, hpulse⟩ := n.ok_iff.mp h
    refine (Notices.ok_iff _).mpr ⟨hordered, hkinds, fun hmode => ?_, fun hmode => ?_⟩
    · simp only at hmode
      simp only [hmode]
    · simp only at hmode
      simp only [hmode]
      split
      · exact hpulse hmode
      · decide

/-- NOTICE CONFIG keeps the invariant (R160, R163). -/
theorem Notices.ok.configured (h : n.ok) (enabled : BitVec 12) (mode : LineMode) :
    (configureNotices n enabled mode).ok := by
  obtain ⟨hordered, -, -, -⟩ := n.ok_iff.mp h
  refine (Notices.ok_iff _).mpr ⟨hordered.sublist List.filter_sublist,
    fun x hx => (List.mem_filter.mp hx).2, fun hmode => ?_, fun hmode => ?_⟩
  · obtain rfl : mode = .level := hmode
    rfl
  · obtain rfl : mode = .pulse := hmode
    exact Line.noConfusion

end

end Sys2Proof.Machine
end

section
/-! SUPPORT. Every step keeps each port's pending set in reading order and its line as its mode says (R158 to
R161): the operations on the state. Most leave the ports alone; the others raise notices. -/

set_option Elab.async false

namespace Sys2Proof.Machine

section
variable {s t : State}

/-- An operation that leaves the ports alone. -/
theorem State.noticesOk.same (h : s.noticesOk) (hp : t.ports = s.ports := by rfl) : t.noticesOk :=
  fun p => by
    rw [State.port, hp]
    exact h p

/-- An operation on the ports that leaves each notice state as it is. -/
theorem State.noticesOk.unnoticed (h : s.noticesOk)
    (hp : ∀ p, (t.port p).notices = (s.port p).notices) : t.noticesOk := fun p => by
  rw [hp]
  exact h p

theorem State.noticesOk.raise (h : s.noticesOk) (k : NoticeKind) (n : Nat) :
    (s.raise k n).noticesOk := fun p => by
  rw [State.raise_port]
  exact (h p).raised _

theorem State.noticesOk.raiseLane (h : s.noticesOk) (k : NoticeKind) (l : LaneId) :
    (s.raiseLane k l).noticesOk := h.raise k l.val

theorem State.noticesOk.raiseRef (h : s.noticesOk) (k : NoticeKind) (r : RefId) :
    (s.raiseRef k r).noticesOk := h.raise k r.val

theorem State.noticesOk.endPulses (h : s.noticesOk) : s.endPulses.noticesOk := fun p => by
  rw [State.endPulses_port]
  exact (h p).pulseEnded

theorem State.noticesOk.setDecoder (h : s.noticesOk) (p : Port) (d : Decoder) :
    (s.setDecoder p d).noticesOk := h.unnoticed fun _ => State.setDecoder_notices ..

theorem State.noticesOk.respond (h : s.noticesOk) (p : Port) (c : Byte) (st : Status)
    (ws : List Word) : (s.respond p c st ws).noticesOk := h.setDecoder p _

/-- A port's record replaced by one whose notice state is as R158 to R161 say. -/
theorem State.noticesOk.setPort (h : s.noticesOk) (p : Port) {x : PortState} (hx : x.notices.ok) :
    (s.setPort p x).noticesOk := fun q => by
  rw [State.port_setPort]
  split
  · exact hx
  · exact h q

theorem State.noticesOk.countTruncated (h : s.noticesOk) (p : Port) :
    (s.countTruncated p).noticesOk := h.setPort p (x := { s.port p with truncated := _ }) (h p)

theorem State.noticesOk.countUnknown (h : s.noticesOk) (p : Port) : (s.countUnknown p).noticesOk :=
  h.setPort p (x := { s.port p with unknown := _ }) (h p)

theorem State.noticesOk.setNotices (h : s.noticesOk) (p : Port) {n : Notices} (hn : n.ok) :
    (s.setNotices p n).noticesOk := h.setPort p hn

theorem State.noticesOk.request (h : s.noticesOk) (l : LaneId) (k : MaintKind) :
    (s.request l k).noticesOk := h.same (State.request_ports ..)

theorem State.noticesOk.countPass (h : s.noticesOk) : s.countPass.noticesOk := h.same

theorem State.noticesOk.engineIdle (h : s.noticesOk) : s.engineIdle.noticesOk := h.same

/-! ### Realign Control and the trackers -/

theorem State.noticesOk.requestShifts (r : RefId) (d : Nat) (ls : List LaneId) :
    ∀ {s : State}, s.noticesOk → (s.requestShifts r d ls).noticesOk := by
  induction ls with
  | nil => exact id
  | cons l ls ih => exact fun h => ih (h.request _ _)

theorem State.noticesOk.setTarget (h : s.noticesOk) (r : RefId) (d : Nat) :
    (s.setTarget r d).1.noticesOk := by
  simp only [State.setTarget]
  split
  · exact State.noticesOk.raiseRef h.same .delaySet r
  · exact State.noticesOk.requestShifts r d _ h.same

theorem State.noticesOk.commitIdle (h : s.noticesOk) (r : RefId) (d : Nat) (o : Origin) :
    (s.commitIdle r d o).1.noticesOk := by
  simp only [State.commitIdle]
  split
  · exact h
  · split
    · exact State.noticesOk.raiseRef h.same .delayHunt r
    · exact h.setTarget r d

theorem State.noticesOk.commit (h : s.noticesOk) (r : RefId) (d : Nat) (o : Origin) :
    (s.commit r d o).1.noticesOk := by
  simp only [State.commit]
  split
  · exact h.same
  · exact h.commitIdle r d o

/-- The end of a realign raises DELAY_SET (R107). -/
theorem State.noticesOk.endRealignIfDone (h : s.noticesOk) (r : RefId) :
    (s.endRealignIfDone r).noticesOk := by
  have ended : ((s.setRealign r { s.realign r with state := .idle, proposal := none }).raiseRef
      .delaySet r).noticesOk := State.noticesOk.raiseRef h.same .delaySet r
  simp only [State.endRealignIfDone, State.endRealign]
  split
  · split
    · exact ended.commitIdle r _ _
    · exact ended
  · exact h

theorem State.noticesOk.endRealigns (rs : List RefId) :
    ∀ {s : State}, s.noticesOk → (s.endRealigns rs).noticesOk := by
  induction rs with
  | nil => exact id
  | cons r rs ih => exact fun h => ih (h.endRealignIfDone r)

theorem State.noticesOk.propose (h : s.noticesOk) (r : RefId) : (s.propose r).noticesOk := by
  simp only [State.propose]
  split
  · split
    · exact h.commit r _ _
    · exact h
  · exact h

theorem State.noticesOk.trackMicrophone (h : s.noticesOk) (r : RefId) (f : Epoch) (x : Frame) :
    (s.trackMicrophone r f x).noticesOk := by
  simp only [State.trackMicrophone]
  split
  · split
    · exact h
    · split
      · exact State.noticesOk.propose h.same r
      · exact h.same
      · exact h
  · exact h

theorem State.noticesOk.handToTrackers (l : LaneId) (f : InFrame) (rs : List RefId) :
    ∀ {s : State}, s.noticesOk → (s.handToTrackers l f rs).noticesOk := by
  induction rs with
  | nil => exact id
  | cons r rs ih =>
    intro s h
    rw [State.handToTrackers]
    split
    · exact ih (h.trackMicrophone r _ _)
    · exact ih h

/-! ### The Reference History -/

theorem State.noticesOk.acceptReference (h : s.noticesOk) (r : RefId) (e : Epoch) (f : Frame) :
    (s.acceptReference r e f).noticesOk := by
  have written : (s.setRef r (acceptFrame (s.ref r) e f)).noticesOk := h.same
  simp only [State.acceptReference]
  split
  · exact (written.raiseRef .refResume r).same
  · exact written.same

/-- The gap that stalls a reference raises REF_STALL (R13). -/
theorem State.noticesOk.gap (h : s.noticesOk) (r : RefId) (e : Epoch) : (s.gap r e).noticesOk := by
  simp only [State.gap]
  split
  · exact State.noticesOk.raiseRef h.same .refStall r
  · exact h.same

theorem State.noticesOk.resolveFrom (r : RefId) (n : Nat) :
    ∀ {s : State} (e : Epoch), s.noticesOk → (s.resolveFrom r n e).noticesOk := by
  induction n with
  | zero => exact fun _ h => h
  | succ n ih =>
    intro s e h
    rw [State.resolveFrom, State.resolveOne]
    split
    · exact ih _ h
    · exact ih _ (h.gap r e)

theorem State.noticesOk.resolve (h : s.noticesOk) (r : RefId) : (s.resolve r).noticesOk := by
  simp only [State.resolve]
  split
  · exact h
  · exact h
  · split
    · exact h
    · exact (State.noticesOk.resolveFrom r _ _ h).same

/-! ### The lanes -/

/-- A frame that overruns the output queue raises OUTPUT_OVERRUN (R26). -/
theorem State.noticesOk.insertOutput (h : s.noticesOk) (l : LaneId) (f : OutFrame) :
    (s.insertOutput l f).noticesOk := by
  simp only [State.insertOutput]
  split
  · exact State.noticesOk.raiseLane h.same .outputOverrun l
  · exact h.same

theorem State.noticesOk.passFrame (h : s.noticesOk) (l : LaneId) (f : InFrame) :
    (s.passFrame l f).noticesOk := by
  rw [State.passFrame]
  exact State.noticesOk.handToTrackers l f _ (h.insertOutput l _)

theorem State.noticesOk.passFrames (l : LaneId) (fs : List InFrame) :
    ∀ {s : State}, s.noticesOk → (s.passFrames l fs).noticesOk := by
  induction fs with
  | nil => exact id
  | cons f fs ih =>
    intro s h
    rw [State.passFrames]
    exact ih (h.passFrame l f)

theorem State.noticesOk.flush (h : s.noticesOk) (l : LaneId) : (s.flush l).noticesOk := by
  rw [State.flush]
  exact State.noticesOk.passFrames l _ h.same

theorem State.noticesOk.acceptMic (h : s.noticesOk) (l : LaneId) (f : InFrame) :
    (s.acceptMic l f).noticesOk := by
  simp only [State.acceptMic]
  split
  · exact State.noticesOk.passFrame h.same l f
  · exact h.same

theorem State.noticesOk.enterBypass (h : s.noticesOk) (l : LaneId) : (s.enterBypass l).noticesOk := by
  simp only [State.enterBypass]
  split
  · exact h.same
  · exact State.noticesOk.flush h.same l

theorem State.noticesOk.clearLane (h : s.noticesOk) (l : LaneId) : (s.clearLane l).noticesOk :=
  State.noticesOk.endRealigns _ (State.noticesOk.request h.same l .clear)

theorem State.noticesOk.unbindLane (h : s.noticesOk) (l : LaneId) : (s.unbindLane l).noticesOk :=
  State.noticesOk.endRealigns _ h.same

/-! ### What an advance brings about, and how an event begins -/

/-- The discarding of expired frames raises FRAME_EXPIRED (R28), and a resolution may raise REF_STALL
(R13); the other actions of an advance raise nothing. -/
theorem State.noticesOk.act (h : s.noticesOk) (a : EpochAction) : (s.act a).noticesOk := by
  cases a with
  | onsetAge r | holdEnd r => exact h.same
  | retryEnd l => exact h.same
  | resolve r => exact h.resolve r
  | changeAge r =>
    simp only [State.act, State.doChangeAge]
    split
    · split
      · exact h.same
      · exact h
    · exact h
  | expire l =>
    simp only [State.act, State.doExpire]
    split
    · exact h
    · exact State.noticesOk.raiseLane h.same .frameExpired l
  | acceptedAge l =>
    simp only [State.act, State.doAcceptedAge]
    split
    · split
      · exact h.same
      · exact h
    · exact h
  | saveAge l =>
    simp only [State.act, State.doSaveAge]
    split
    · split
      · exact h.same
      · exact h
    · exact h

theorem State.noticesOk.actAll (as : List EpochAction) :
    ∀ {s : State}, s.noticesOk → (s.actAll as).noticesOk := by
  induction as with
  | nil => exact id
  | cons a as ih => exact fun h => ih (h.act a)

theorem State.noticesOk.takeAction (h : s.noticesOk) (a : EpochAction) :
    (s.takeAction a).noticesOk := by
  simp only [State.takeAction]
  split
  · exact State.noticesOk.act h.same a
  · exact h

theorem State.noticesOk.startOldestPass (h : s.noticesOk) : s.startOldestPass.noticesOk := by
  simp only [State.startOldestPass]
  split
  · exact h
  · simp only [State.startPass]
    split
    · exact h
    · exact State.noticesOk.handToTrackers _ _ _ h.same

theorem State.noticesOk.startMaintenance (h : s.noticesOk) : s.startMaintenance.noticesOk := by
  simp only [State.startMaintenance]
  split
  · exact h
  · exact h.same

theorem State.noticesOk.arbitrate (h : s.noticesOk) : s.arbitrate.noticesOk := by
  simp only [State.arbitrate]
  split
  · exact h
  · split
    · exact h.startOldestPass
    · exact h.startMaintenance

theorem State.settleScrubber_ports (s : State) : s.settleScrubber.ports = s.ports := by
  rw [State.settleScrubber]
  split
  · rfl
  · exact State.startScrubber_ports s

theorem State.noticesOk.beginStart (h : s.noticesOk) : s.beginStart.noticesOk :=
  (State.noticesOk.actAll s.due h.same).endPulses

theorem State.noticesOk.beginScrub (h : s.noticesOk) : s.beginScrub.noticesOk :=
  h.beginStart.arbitrate.endPulses

theorem State.noticesOk.beginEvent (h : s.noticesOk) : s.beginEvent.noticesOk :=
  h.beginScrub.same (State.settleScrubber_ports _)

/-! ### The completions -/

theorem State.noticesOk.landUpdates (l : LaneId) (fz : Vector (Option Freeze) 3) (us : List Update) :
    ∀ {s : State}, s.noticesOk → (s.landUpdates l fz us).noticesOk := by
  induction us with
  | nil => exact id
  | cons u us ih =>
    intro s h
    rw [State.landUpdates]
    split
    · exact ih h.same
    · exact ih h

/-- The tests of a latched window raise ERLE_LOW or ERLE_LOCK (R116). -/
theorem State.noticesOk.testLatch (h : s.noticesOk) (l : LaneId) (m : Meter) (n : Nat) :
    (s.testLatch l m n).noticesOk := by
  simp only [State.testLatch]
  split
  · split
    · exact h.raiseLane .erleLow l
    · exact h
  · split
    · exact State.noticesOk.raiseLane h.same .erleLock l
    · exact h

theorem State.noticesOk.autoSave (h : s.noticesOk) (l : LaneId) (g : Guard) (n : Nat) :
    (s.autoSave l g n).noticesOk := by
  simp only [State.autoSave]
  split
  · exact h.request _ _
  · exact h

theorem State.noticesOk.meterStep (h : s.noticesOk) (l : LaneId) (start : Lane) (b : Bool)
    (k : TalkState) (em eo : Nat) : (s.meterStep l start b k em eo).noticesOk := by
  simp only [State.meterStep, State.meterWindow]
  split
  · split
    · split
      · exact (State.noticesOk.testLatch h.same l _ _).autoSave l _ _
      · exact h.same
    · exact h.same
  · exact h.same

/-- A trip raises LANE_TRIP or LANE_LOCKOUT (R125 to R127). -/
theorem State.noticesOk.trip (h : s.noticesOk) (l : LaneId) (g : Guard) : (s.trip l g).noticesOk := by
  simp only [State.trip]
  split
  · exact State.noticesOk.raiseLane (State.noticesOk.request h.same l .restore) .laneTrip l
  · exact State.noticesOk.raiseLane (State.noticesOk.request h.same l .clear) .laneLockout l

theorem State.noticesOk.guardStep (h : s.noticesOk) (l : LaneId) (g : Guard) (v : Verdict) :
    (s.guardStep l g v).noticesOk := by
  simp only [State.guardStep, State.setDivergence]
  split
  · split
    · exact h
    · exact h.same
    · exact h.same
    · exact h.trip l g
  · exact h

theorem State.noticesOk.outputStep (h : s.noticesOk) (l : LaneId) (f : OutFrame) :
    (s.outputStep l f).noticesOk := by
  have inserted : ((s.setLane l { s.lane l with inFlight := none }).insertOutput l f).noticesOk :=
    State.noticesOk.insertOutput h.same l f
  simp only [State.outputStep]
  split
  · exact inserted.flush l
  · exact inserted

theorem State.noticesOk.landResults (h : s.noticesOk) (i : PassInputs) (res : PassResults) :
    (s.landResults i res).noticesOk := by
  have talked : ((s.landUpdates i.lane res.freeze res.updates).talkStep i.lane res).noticesOk :=
    (State.noticesOk.landUpdates i.lane res.freeze res.updates h).same
  have judged := (talked.meterStep i.lane i.record i.wasRun res.talk res.micEnergy
    res.outEnergy).guardStep i.lane i.record.guard res.verdict
  exact State.noticesOk.outputStep judged.same i.lane res.output

theorem State.noticesOk.completePass (h : s.noticesOk) (i : PassInputs) (g : Nat) :
    (s.completePass i g).noticesOk := by
  simp only [State.completePass]
  refine State.noticesOk.engineIdle (State.noticesOk.countPass ?_)
  split
  · exact h.same
  · exact h.landResults i _

/-- A SAVE that finds no room raises CHECKPOINT_SKIPPED (R134). -/
theorem State.noticesOk.completeSave (h : s.noticesOk) (l : LaneId) (x : Lane) (c : Chains)
    (e : Epoch) : (s.completeSave l x c e).noticesOk := by
  have skipped : ∀ (y : Lane) (cs : CheckpointStore),
      ({ s.setLane l y with checkpoints := cs }.raiseLane .checkpointSkipped l).noticesOk :=
    fun y cs => State.noticesOk.raiseLane h.same _ l
  simp only [State.completeSave]
  split
  · split
    · exact (skipped _ _).same
    · exact h.same
  · split
    · exact (skipped _ _).same
    · exact h.same

theorem State.noticesOk.completeRestore (h : s.noticesOk) (l : LaneId) (x : Lane) (c : Chains) :
    (s.completeRestore l x c).noticesOk := by
  simp only [State.completeRestore]
  split
  · exact h.same
  · exact h.same

theorem State.noticesOk.completeClear (h : s.noticesOk) (l : LaneId) :
    (s.completeClear l).noticesOk := by
  simp only [State.completeClear]
  split
  · exact h.same
  · exact h.same

theorem State.noticesOk.completeShift (h : s.noticesOk) (l : LaneId) (r : RefId) (d : Int)
    (old : List Partition) : (s.completeShift l r d old).noticesOk :=
  State.noticesOk.endRealignIfDone h.same r

end

/-- The notice states of a part just reset. -/
theorem State.noticesOk_of_reset {s : State} (h : ∀ p, (s.port p).notices = Notices.reset) :
    s.noticesOk := fun p => by
  rw [h]
  exact Notices.ok_reset

end Sys2Proof.Machine
end

section
/-! SUPPORT. Every step keeps each port's pending set in reading order and its line as its mode says (R158 to
R161): the owners' answers, then every row of the table. -/

set_option Elab.async false

namespace Sys2Proof.Machine

/-! ## The owners' answers -/

section
variable {s t u : State}

/-- A command keeps the notice states if its owner's effect does. -/
theorem State.noticesOk.command {k : Kind} {p : Port} {m : Message} {owner : State → Reply}
    (hs : s.noticesOk) (h : takeCommand k p m s owner = .next t)
    (ho : ∀ u : State, u.noticesOk → (owner u).after.noticesOk) : t.noticesOk :=
  takeCommand_after h hs hs.beginEvent (ho _ hs.beginEvent) fun _ c st ws hu => hu.respond p c st ws

/-- An event whose next state is `u`. -/
theorem State.noticesOk.event (h : (Host.Outcome.next u : Host.Outcome State Fault Refusal) = .next t)
    (hu : u.noticesOk) : t.noticesOk := by
  cases h
  exact hu

theorem State.noticesOk.declared (hu : u.noticesOk) (r : RefId) :
    (u.declareActive r).noticesOk ∧ (declareInactive u r).after.noticesOk := by
  rw [State.declareActive, declareInactive]
  refine ⟨?_, ?_⟩
  · split
    · exact hu.same
    · exact hu
  · split
    · exact hu
    split
    · exact hu
    · exact hu.same

/-- An accepted REF FRAME may raise REF_RESUME; a refused one raises nothing (R10, R14). -/
theorem State.noticesOk.frameReply (hu : u.noticesOk) (r : RefId) (e : Epoch) (f : Frame) :
    (frameReply u r e f).after.noticesOk := by
  have counted : ∀ x, (u.setRef r x).noticesOk := fun _ => hu.same
  simp only [Machine.frameReply]
  split
  · exact hu
  split
  · exact counted _
  split
  · exact counted _
  split
  · exact counted _
  split
  · exact hu
  · exact hu.acceptReference r e f

theorem State.noticesOk.saveReply (hu : u.noticesOk) (l : LaneId) :
    (saveReply u l).after.noticesOk := by
  have queued := hu.request l .save
  rw [Machine.saveReply]
  split
  · exact hu
  · exact hu
  · exact hu
  · exact queued
  · exact queued
  · exact queued

theorem State.noticesOk.setModeRun (hu : u.noticesOk) (l : LaneId) :
    (setModeRun u l).after.noticesOk := by
  simp only [Machine.setModeRun]
  split
  · exact hu
  · split
    · exact hu
    · exact hu.same
  · exact hu
  · exact hu
  · exact hu
  · exact hu

theorem State.noticesOk.setModeBypass (hu : u.noticesOk) (l : LaneId) :
    (setModeBypass u l).after.noticesOk := by
  have entered := hu.enterBypass l
  rw [Machine.setModeBypass]
  split
  · exact hu
  · exact entered
  · exact entered
  · exact entered
  · exact hu
  · exact hu

theorem State.noticesOk.resizeReply (hu : u.noticesOk) (l : LaneId) (tail : Nat) :
    (resizeReply u l tail).after.noticesOk := by
  simp only [Machine.resizeReply]
  split
  · exact hu.same
  split
  · split
    · exact hu
    · exact hu.same
  · exact hu.same

theorem State.noticesOk.writeReply (hu : u.noticesOk) (m : Message) (l : LaneId) (r : RefId)
    (start trueLength : Nat) : (writeReply u m l r start trueLength).after.noticesOk := by
  simp only [Machine.writeReply]
  split
  · exact hu
  · exact hu.same

/-! ## Every row of the table -/

/-- Every row keeps the notice states. The commands of the Notice Unit and the resets write a port's notice
state; the rows of the other blocks, and the port events, raise notices or leave them. -/
theorem exec_noticesOk {c : Instr} (hs : s.noticesOk) (h : exec c s = .next t) : t.noticesOk := by
  have begun := hs.beginEvent
  cases c with
  | powerOn | resetNAssert =>
    exact .event h (State.noticesOk_of_reset fun p => congrArg PortState.notices (State.reset_port p))
  | deviceReset p m =>
    refine hs.command h fun u hu => onZero_after hu (State.noticesOk_of_reset fun p => ?_)
    exact congrArg PortState.notices (u.deviceReset_port p)
  | resetNRelease =>
    refine .event h ?_
    split
    · exact begun.same
    · exact begun.same
  | epochAdvance =>
    refine .event h ?_
    split
    · exact begun
    · exact begun.same
  | epochResolution r =>
    refine .event h ?_
    split
    · exact (hs.takeAction _).takeAction _
    · exact hs
  | frameExpiry _ | lastAcceptedEpochAgeOut _ | retryCountdownEnd _ | holdCountdownEnd _
  | lastChangeAgeOut _ | onsetRecordAgeOut _ | lastSaveEpochAgeOut _ =>
    exact .event h (hs.takeAction _)
  | transactionTruncated c =>
    refine .event h ?_
    split
    · exact ((begun.setDecoder c.port .wait).countTruncated c.port).raise .portFault _
    · exact begun
  | responseCut p | responseSent c | transactionEnd p =>
    refine .event h ?_
    split
    · exact begun.setDecoder _ _
    · exact begun
  | transactionStart c =>
    simp only [exec, execTransactionStart] at h
    split at h
    · cases h
    · refine .event h ?_
      split
      · exact begun
      · exact begun.setDecoder _ _
  | unknownKind p code m =>
    simp only [exec, execUnknownKind] at h
    split at h
    · cases h
    split at h
    · exact .event h hs
    · exact .event h (((begun.countUnknown p).raise .portFault _).respond p code _ _)
  | passStart =>
    refine .event h ?_
    split
    · exact hs.beginStart
    · exact hs.beginStart.startOldestPass
  | maintenanceStart =>
    refine .event h ?_
    split
    · exact hs.beginStart
    · exact hs.beginStart.startMaintenance
  | passComplete =>
    refine .event h ?_
    split
    · exact begun.completePass _ _
    · exact begun
  | saveComplete =>
    refine .event h ?_
    split
    · exact begun.completeSave _ _ _ _
    · exact begun
  | restoreComplete =>
    refine .event h ?_
    split
    · exact begun.completeRestore _ _ _
    · exact begun
  | clearComplete =>
    refine .event h ?_
    split
    · exact begun.completeClear _
    · exact begun
  | shiftComplete =>
    refine .event h ?_
    split
    · exact begun.completeShift _ _ _ _
    · exact begun
  | scrubStart => exact .event h begun
  | scrubComplete =>
    refine .event h ?_
    split
    · split
      · exact begun
      · exact begun.same
    · exact begun
  | noticeRead p m =>
    exact hs.command h fun u hu => onZero_after hu (hu.setNotices p (hu p).read)
  | noticeArm p m =>
    exact hs.command h fun u hu => onZero_after hu (hu.setNotices p (hu p).armedAgain)
  | noticeConfig p m =>
    refine hs.command h fun u hu => onZero_after hu ?_
    split
    · exact hu
    split
    · exact hu
    · exact hu.setNotices p ((hu p).configured _ _)
  | nop p m | engineStatus p m => exact hs.command h fun u hu => onZero_after hu hu
  | declareRef p m =>
    refine hs.command h fun u hu => onRef_after hu fun r => ?_
    split
    · exact hu
    split
    · exact hu
    · exact (hu.declared r).1
    · exact (hu.declared r).2
  | refFrame p m =>
    refine hs.command h fun u hu => onRef_after hu fun r => ?_
    split
    · exact hu
    · exact hu.frameReply r _ _
  | refConfig p m | trackerConfig p m | historyRead p m =>
    refine hs.command h fun u hu => onRef_after hu fun r => ?_
    split
    · exact hu.same
    · exact hu.same
  | refStatus p m | trackerStatus p m | trackerClear p m =>
    exact hs.command h fun u hu => onRef_after hu fun r => hu.same
  | setDelay p m => exact hs.command h fun u hu => onRef_after hu fun r => hu.commit r _ _
  | micFrame p m =>
    refine hs.command h fun u hu => onLane_after hu fun l => ?_
    split
    · exact hu
    · exact hu.acceptMic l _
  | fetch p m | dropCheckpoints p m =>
    refine hs.command h fun u hu => onBoundLane_after hu fun l => ?_
    split
    · exact hu
    · exact hu.same
  | setMode p m =>
    refine hs.command h fun u hu => onLane_after hu fun l => ?_
    split
    · exact hu
    · exact hu.setModeRun l
    · exact hu.setModeBypass l
  | bind p m =>
    refine hs.command h fun u hu => onLane_after hu fun l => ?_
    split
    · exact hu
    split
    · split
      · exact hu
      · exact hu.same
    · exact hu
  | unbind p m =>
    refine hs.command h fun u hu => onBoundLane_after hu fun l => ?_
    split
    · exact hu
    · exact hu.unbindLane l
  | resize p m =>
    refine hs.command h fun u hu => onLane_after hu fun l => ?_
    split
    · exact hu
    split
    · exact hu
    split
    · exact hu
    · exact hu.resizeReply l _
  | resetLane p m => exact hs.command h fun u hu => onBoundLane_after hu fun l => hu.clearLane l
  | laneStatus p m | storeStatus p m | guardStatus p m =>
    exact hs.command h fun u hu => onLane_after hu fun l => hu
  | talkStatus p m | meterRead p m | laneConfig p m | talkConfig p m | meterConfig p m =>
    exact hs.command h fun u hu => onBoundLane_after hu fun l => hu.same
  | coeffRead p m =>
    refine hs.command h fun u hu => onLane_after hu fun l => ?_
    split
    · exact hu
    split
    · exact hu
    split
    · exact hu
    · rwa [readReply_after]
  | coeffWrite p m =>
    refine hs.command h fun u hu => onLane_after hu fun l => ?_
    split
    · exact hu
    split
    · exact hu
    split
    · exact hu
    split
    · exact hu
    split
    · exact hu
    split
    · exact hu
    · exact hu.writeReply m l _ _ _
  | rearm p m | guardConfig p m =>
    refine hs.command h fun u hu => onLane_after hu fun l => ?_
    split
    · exact hu
    split
    · exact hu
    · exact hu.same
  | saveCheckpoint p m => exact hs.command h fun u hu => onLane_after hu fun l => hu.saveReply l

end

/-- Settles O59: a raise inserts in reading order where the pair is not pending and sets the line by its mode,
the Notice Unit's commands and the resets keep both, and every row acts on the ports by these alone. -/
theorem noticeInvariantKept : Obligations.NoticeInvariantKept := by
  intro s t hs h
  rw [step] at h
  split at h
  · exact .event h hs
  · exact exec_noticesOk hs.same h

end Sys2Proof.Machine
end

section
/-! SUPPORT. Raising a notice on each port (R157, R159, R160); NOTICE READ, NOTICE ARM and NOTICE CONFIG
(R161 to R163). -/

namespace Sys2Proof.Machine

/-! ## Raising a notice (R159, R160) -/

/-- A pair whose kind is not enabled, or that is pending, changes nothing (R159). -/
theorem raiseOnPort_ignored {x : Notice} {n : Notices}
    (h : n.enabled.getLsbD (noticePriority x.kind - 1) = false ∨ x ∈ n.pending) :
    raiseOnPort x n = n := by
  rw [raiseOnPort_eq, if_neg]
  rintro ⟨henabled, hnew⟩
  obtain hdisabled | hpending := h
  · rw [kindEnabled, hdisabled] at henabled
    cases henabled
  · exact hnew hpending

/-- Settles O52: the table of priorities and the end of a pulse by evaluation, a raise by its two cases on
each port. -/
theorem raiseEntersEnabledPorts : Obligations.RaiseEntersEnabledPorts := by
  refine ⟨noticeKinds_priorities, fun s p => congrArg PortState.notices (s.endPulses_port p),
    fun s k source p => ?_⟩
  intro n n' x
  have raised : n' = raiseOnPort x n := congrArg PortState.notices (s.raise_port k source p)
  refine ⟨fun hout => raised.trans (raiseOnPort_ignored hout), fun henabled hnew => ?_⟩
  rw [raised, raiseOnPort_eq, if_pos ⟨henabled, hnew⟩]
  refine ⟨insertNotice_perm x n.pending, rfl, rfl, rfl, fun hmode => ?_, fun hmode => ?_, rfl⟩
  · simp [hmode, levelLine_eq, insertNotice_ne_nil]
  · simp only [hmode]

/-! ## The commands of the Notice Unit (R161 to R163) -/

/-- An event begins with every pulse ended (R160). -/
theorem beginEvent_line_ne_pulsed (s : State) (p : Port) :
    (s.beginEvent.port p).notices.line ≠ .pulsed := by
  have ended : ∀ v : State, (v.endPulses.port p).notices.line ≠ .pulsed := fun v => by
    rw [State.endPulses_port]
    split
    · exact Line.noConfusion
    · assumption
  rw [State.beginEvent, State.port, State.settleScrubber_ports]
  exact ended _

section
variable {p : Port} {m : Message} {s : State}

/-- NOTICE READ, its target 0 (R161). -/
theorem exec_noticeRead (h : s.takes .noticeRead p m) (hm : m.target = 0) :
    exec (.noticeRead p m) s = .next
      ((s.beginEvent.setNotices p (readNotices (s.beginEvent.notices p))).respond p 0x90 .ok
        (wordOf ((s.beginEvent.notices p).pending.take 16).length
          :: wordOf ((s.beginEvent.notices p).pending.drop 16).length
          :: ((s.beginEvent.notices p).pending.take 16).flatMap noticeWords)) := by
  refine (takeCommand_taken h _).trans ?_
  rw [onZero_eq, if_pos hm]
  rfl

/-- NOTICE ARM, its target 0 (R162). -/
theorem exec_noticeArm (h : s.takes .noticeArm p m) (hm : m.target = 0) :
    exec (.noticeArm p m) s = .next
      ((s.beginEvent.setNotices p (armNotices (s.beginEvent.notices p))).respond p 0x92 .ok
        [wordOf (s.beginEvent.notices p).pending.length]) := by
  refine (takeCommand_taken h _).trans ?_
  rw [onZero_eq, if_pos hm]
  rfl

/-- NOTICE CONFIG with a set above bit 11 or a mode other than 0 or 1 (R163). -/
theorem exec_noticeConfig_badArg (h : s.takes .noticeConfig p m) (hm : m.target = 0)
    (hbad : 4096 ≤ argNat m 0 ∨ 2 ≤ argNat m 1) :
    exec (.noticeConfig p m) s = .next (s.beginEvent.respond p 0x91 .badArg []) := by
  refine (takeCommand_taken h _).trans ?_
  rw [onZero_eq, if_pos hm]
  obtain hset | hmode := hbad
  · simp only [if_pos hset]
    split <;> rfl
  · simp only [flagArg_none hmode]
    rfl

/-- NOTICE CONFIG with values in range, its target 0 (R163). -/
theorem exec_noticeConfig (h : s.takes .noticeConfig p m) (hm : m.target = 0)
    (hset : argNat m 0 < 4096) (hmode : argNat m 1 ≤ 1) :
    exec (.noticeConfig p m) s = .next
      (let n := configureNotices (s.beginEvent.notices p) (BitVec.ofNat 12 (argNat m 0))
          (if argNat m 1 = 0 then .level else .pulse)
       (s.beginEvent.setNotices p n).respond p 0x91 .ok
          [n.enabled.zeroExtend 16, argWord m 1, flagWord n.armed, wordOf n.pending.length]) := by
  refine (takeCommand_taken h _).trans ?_
  rw [onZero_eq, if_pos hm, ← wordOf_argNat m 1]
  obtain h0 | h1 : argNat m 1 = 0 ∨ argNat m 1 = 1 := by omega
  · simp only [flagArg_zero h0, if_neg (Nat.not_le.mpr hset), h0]
    rfl
  · simp only [flagArg_one h1, if_neg (Nat.not_le.mpr hset), h1]
    rfl

end

/-- A set of kinds within bits 0 to 11 is stored as it is (R163). -/
theorem storedKinds_zeroExtend {w : Word} (h : w.toNat < 4096) :
    (w.extractLsb' 0 12).zeroExtend 16 = w := by
  apply BitVec.eq_of_toNat_eq
  simp only [BitVec.toNat_setWidth, BitVec.extractLsb'_toNat]
  omega

/-- What NOTICE CONFIG leaves, the enabled set given as a word (R163). -/
theorem configureNotices_eq (n : Notices) (w : Word) (mode : LineMode) :
    configureNotices n (BitVec.ofNat 12 w.toNat) mode =
      (let pending := n.pending.filter fun x => w.getLsbD (noticePriority x.kind - 1)
       { enabled := w.extractLsb' 0 12, pending := pending, armed := n.armed, pulses := n.pulses
         mode := mode
         line := if mode = .level ∧ n.armed = true ∧ pending ≠ [] then .asserted else .released }) := by
  have stored : BitVec.ofNat 12 w.toNat = w.extractLsb' 0 12 := by
    apply BitVec.eq_of_toNat_eq
    simp
  have kept : (fun x : Notice => kindEnabled { n with enabled := w.extractLsb' 0 12 } x.kind) =
      fun x => w.getLsbD (noticePriority x.kind - 1) := by
    funext x
    have bit : noticePriority x.kind - 1 < 12 := by
      have := noticePriority_le x.kind
      omega
    simp [kindEnabled, bit]
  rw [stored]
  cases mode with
  | level => simp only [configureNotices, kept, levelLine_eq, true_and]
  | pulse => simp only [configureNotices, kept, reduceCtorEq, false_and, if_false]

/-- What NOTICE ARM leaves of a disarmed port whose line shows no pulse (R162). -/
theorem armNotices_of_disarmed {n : Notices} (h : n.armed = false) (hline : n.line ≠ .pulsed) :
    armNotices n = { n with
      armed := true
      line := match n.mode, n.pending with
        | .level, [] => .released
        | .level, _ :: _ => .asserted
        | .pulse, [] => n.line
        | .pulse, _ :: _ => .pulsed
      pulses := match n.mode, n.pending with
        | .level, _ => n.pulses
        | .pulse, [] => n.pulses
        | .pulse, _ :: _ => n.pulses + 1 } := by
  rw [armNotices_eq, h, if_neg Bool.false_ne_true]
  cases hmode : n.mode <;> cases hp : n.pending <;> simp [levelLine, hline]

/-- Settles O53: NOTICE READ and NOTICE ARM by what each leaves of the port's notice state, NOTICE CONFIG by
the range of its arguments. -/
theorem noticeCommandsTable : Obligations.NoticeCommandsTable := by
  refine ⟨fun p m s h hm => ?_, fun p m s h hm => ?_, fun p m s h hm => ?_⟩
  · intro u n
    rw [exec_noticeRead h hm, readNotices_eq, List.length_take, List.length_drop]
    rfl
  · intro u n
    rw [exec_noticeArm h hm]
    congr 2
    change u.setNotices p (armNotices n) = _
    split
    · rename_i harmed
      rw [armNotices_eq, if_pos harmed]
      exact u.setPort_port_self p
    · rename_i hdisarmed
      rw [armNotices_of_disarmed (Bool.eq_false_iff.mpr hdisarmed) (beginEvent_line_ne_pulsed s p)]
      rfl
  · intro u n pending
    refine ⟨exec_noticeConfig_badArg h hm, fun hset hmode => ?_⟩
    have isLevel : (if argNat m 1 = 0 then LineMode.level else .pulse) = .level ↔ argNat m 1 = 0 := by
      split <;> simp [*]
    rw [exec_noticeConfig h hm hset hmode, argNat, configureNotices_eq]
    simp only [storedKinds_zeroExtend hset, isLevel]
    rfl

end Sys2Proof.Machine
end

section
/-! SUPPORT. No row changes the queue of waiting commands (log 1): the owners' answers, then every row of
the table. -/

namespace Sys2Proof.Machine

/-- From `s` to `t` the queue of waiting commands stays (log 1). -/
def SameWaiting (s t : State) : Prop := t.pending = s.pending

section
variable {s t u : State}

theorem SameWaiting.refl (s : State) : SameWaiting s s := rfl

theorem SameWaiting.trans (a : SameWaiting s t) (b : SameWaiting t u) : SameWaiting s u :=
  Eq.trans b a

theorem SameWaiting.setPort (h : SameWaiting s t) (p : Port) (x : PortState) :
    SameWaiting s (t.setPort p x) :=
  h

theorem SameWaiting.raise (h : SameWaiting s t) (k : NoticeKind) (n : Nat) :
    SameWaiting s (t.raise k n) :=
  h

theorem Keeps.sameWaiting (h : Keeps s t) : SameWaiting s t := h.pending

theorem Begun.sameWaiting (h : Begun s t) : SameWaiting s t := h.pending

/-- A refusal changes nothing, so only the answer behind it counts. -/
theorem SameWaiting.unless {c : Prop} [Decidable c] {st : Status} {a : Reply}
    (h : SameWaiting u a.after) : SameWaiting u (if c then refuse st u else a).after := by
  split
  · exact .refl u
  · exact h

/-- The next state of an event. -/
theorem SameWaiting.event
    (h : (Host.Outcome.next u : Host.Outcome State Fault Refusal) = .next t)
    (hu : SameWaiting s u) : SameWaiting s t := by
  cases h
  exact hu

/-- A command keeps the queue if its owner does: what an event finds and a response do not touch it. -/
theorem SameWaiting.command {k : Kind} {p : Port} {m : Message} {owner : State → Reply}
    (h : takeCommand k p m s owner = .next t) (ho : ∀ u, SameWaiting u (owner u).after) :
    SameWaiting s t :=
  have begun := (begun_beginEvent s).sameWaiting
  takeCommand_after h (.refl s) begun (begun.trans (ho _)) fun _ _ _ _ hu => hu.setPort _ _

end

/-! ## The owners' answers -/

section
variable (u : State)

theorem sameWaiting_declareActive (r : RefId) : SameWaiting u (u.declareActive r) := by
  rw [State.declareActive]
  split <;> rfl

theorem sameWaiting_declareInactive (r : RefId) : SameWaiting u (declareInactive u r).after := by
  rw [declareInactive]
  split
  · exact .refl u
  · exact .unless rfl

/-- A refused frame moves at most a counter of refusals (R10). -/
theorem sameWaiting_frameReply (r : RefId) (e : Epoch) (f : Frame) :
    SameWaiting u (frameReply u r e f).after := by
  simp only [frameReply]
  refine .unless ?_
  split
  · rfl
  split
  · rfl
  split
  · rfl
  exact .unless ((Steady.refl u).acceptReference r e f).sameWaiting

theorem sameWaiting_setModeRun (l : LaneId) : SameWaiting u (setModeRun u l).after := by
  simp only [setModeRun]
  split
  · exact .refl u
  · exact .unless rfl
  · exact .refl u
  · exact .refl u
  · exact .refl u
  · exact .refl u

theorem sameWaiting_setModeBypass (l : LaneId) : SameWaiting u (setModeBypass u l).after := by
  have entered := ((Steady.refl u).enterBypass l).sameWaiting
  rw [setModeBypass]
  split
  · exact .refl u
  · exact entered
  · exact entered
  · exact entered
  · exact .refl u
  · exact .refl u

theorem sameWaiting_unbindLane (l : LaneId) : SameWaiting u (u.unbindLane l) := by
  have released : SameWaiting u { u with store := u.store.release l 0 } := rfl
  exact released.trans (steady_unbindLane u l).sameWaiting

theorem sameWaiting_resizeReply (l : LaneId) (tail : Nat) :
    SameWaiting u (resizeReply u l tail).after := by
  simp only [resizeReply]
  split
  · rfl
  split
  · split <;> rfl
  · rfl

theorem sameWaiting_writeReply (m : Message) (l : LaneId) (r : RefId) (start trueLength : Nat) :
    SameWaiting u (writeReply u m l r start trueLength).after := by
  simp only [writeReply]
  split <;> rfl

theorem sameWaiting_saveReply (l : LaneId) : SameWaiting u (saveReply u l).after := by
  have queued : SameWaiting u (u.request l .save) := u.request_pending l .save
  rw [saveReply]
  split
  · exact .refl u
  · exact .refl u
  · exact .refl u
  · exact queued
  · exact queued
  · exact queued

end

/-! ## Every row of the table -/

/-- Every row keeps the queue of waiting commands: the operations of the blocks and the ports do not touch
it, and the resets carry it over (R1, R154). -/
theorem exec_sameWaiting {c : Instr} {s t : State} (h : exec c s = .next t) : SameWaiting s t := by
  have begun := (begun_beginEvent s).sameWaiting
  have keeps := Keeps.refl s.beginEvent
  have steady := Steady.refl s.beginEvent
  have started := (Steady.refl s).beginStart
  cases c with
  | powerOn | resetNAssert => exact .event h rfl
  | resetNRelease | epochAdvance =>
    refine .event h ?_
    split
    · exact begun
    · exact begun
  | transactionTruncated c =>
    refine .event h ?_
    split
    · exact ((begun.setPort _ _).setPort _ _).raise _ _
    · exact begun
  | responseCut _ | responseSent _ | transactionEnd _ =>
    refine .event h ?_
    split
    · exact begun.setPort _ _
    · exact begun
  | epochResolution r =>
    refine .event h ?_
    split
    · exact (((Steady.refl s).takeAction _).takeAction _).sameWaiting
    · exact .refl s
  | frameExpiry _ | lastAcceptedEpochAgeOut _ | retryCountdownEnd _ | holdCountdownEnd _
  | lastChangeAgeOut _ | onsetRecordAgeOut _ | lastSaveEpochAgeOut _ =>
    exact .event h ((Steady.refl s).takeAction _).sameWaiting
  | transactionStart c =>
    simp only [exec, execTransactionStart] at h
    split at h
    · cases h
    · refine .event h ?_
      split
      · exact begun
      · exact begun.setPort _ _
  | unknownKind p code m =>
    simp only [exec, execUnknownKind] at h
    split at h
    · cases h
    split at h
    · exact .event h (.refl s)
    · exact .event h (((begun.setPort _ _).raise _ _).setPort _ _)
  | passStart =>
    refine .event h ?_
    split
    · exact started.sameWaiting
    · exact started.startOldestPass.sameWaiting
  | maintenanceStart =>
    refine .event h ?_
    split
    · exact started.sameWaiting
    · exact started.startMaintenance.sameWaiting
  | passComplete =>
    refine .event h ?_
    split
    · exact begun.trans (keeps.completePass _ _).sameWaiting
    · exact begun
  | saveComplete =>
    refine .event h ?_
    split
    · exact begun.trans (steady.completeSave _ _ _ _).sameWaiting
    · exact begun
  | restoreComplete =>
    refine .event h ?_
    split
    · exact begun.trans (keeps.completeRestore _ _ _).sameWaiting
    · exact begun
  | clearComplete =>
    refine .event h ?_
    split
    · exact begun.trans (keeps.completeClear _).sameWaiting
    · exact begun
  | shiftComplete =>
    refine .event h ?_
    split
    · exact begun.trans (keeps.completeShift _ _ _ _).sameWaiting
    · exact begun
  | scrubStart => exact .event h begun
  | scrubComplete =>
    refine .event h ?_
    split
    · split
      · exact begun
      · exact begun
    · exact begun
  | nop p m | engineStatus p m | noticeRead p m | noticeArm p m | deviceReset p m =>
    exact .command h fun u => onZero_after (.refl u) rfl
  | noticeConfig p m =>
    refine .command h fun u => onZero_after (.refl u) ?_
    split
    · exact .refl u
    · exact .unless rfl
  | declareRef p m =>
    refine .command h fun u => onRef_after (.refl u) fun r => .unless ?_
    split
    · exact .refl u
    · exact sameWaiting_declareActive u r
    · exact sameWaiting_declareInactive u r
  | refFrame p m =>
    exact .command h fun u => onRef_after (.refl u) fun r =>
      .unless (sameWaiting_frameReply u r _ _)
  | refStatus p m | trackerStatus p m | trackerClear p m =>
    exact .command h fun u => onRef_after (.refl u) fun r => rfl
  | refConfig p m | historyRead p m | trackerConfig p m =>
    refine .command h fun u => onRef_after (.refl u) fun r => ?_
    split <;> rfl
  | setDelay p m =>
    exact .command h fun u => onRef_after (.refl u) fun r =>
      ((Steady.refl u).commit r _ _).sameWaiting
  | micFrame p m =>
    refine .command h fun u => onLane_after (.refl u) fun l => ?_
    split
    · exact .refl u
    · exact ((Steady.refl u).acceptMic l _).sameWaiting
  | fetch p m =>
    refine .command h fun u => onBoundLane_after (.refl u) fun l => ?_
    split <;> rfl
  | setMode p m =>
    refine .command h fun u => onLane_after (.refl u) fun l => ?_
    split
    · exact .refl u
    · exact sameWaiting_setModeRun u l
    · exact sameWaiting_setModeBypass u l
  | bind p m =>
    refine .command h fun u => onLane_after (.refl u) fun l => .unless ?_
    split
    · split <;> rfl
    · exact .refl u
  | unbind p m =>
    exact .command h fun u => onBoundLane_after (.refl u) fun l =>
      .unless (sameWaiting_unbindLane u l)
  | resize p m =>
    refine .command h fun u => onLane_after (.refl u) fun l => ?_
    split
    · exact .refl u
    · exact .unless (.unless (sameWaiting_resizeReply u l _))
  | resetLane p m =>
    exact .command h fun u => onBoundLane_after (.refl u) fun l =>
      ((Steady.refl u).clearLane l).sameWaiting
  | laneStatus p m | storeStatus p m | guardStatus p m =>
    exact .command h fun u => onLane_after (.refl u) fun l => rfl
  | talkStatus p m | meterRead p m | laneConfig p m | talkConfig p m | meterConfig p m =>
    exact .command h fun u => onBoundLane_after (.refl u) fun l => rfl
  | coeffRead p m =>
    refine .command h fun u => onLane_after (.refl u) fun l => ?_
    split
    · exact .refl u
    · refine .unless (.unless ?_)
      rw [readReply_after]
      exact .refl u
  | coeffWrite p m =>
    refine .command h fun u => onLane_after (.refl u) fun l => ?_
    split
    · exact .refl u
    · exact .unless (.unless (.unless (.unless (.unless (sameWaiting_writeReply u m l _ _ _)))))
  | rearm p m =>
    exact .command h fun u => onLane_after (.refl u) fun l => .unless (.unless rfl)
  | saveCheckpoint p m =>
    exact .command h fun u => onLane_after (.refl u) fun l => sameWaiting_saveReply u l
  | dropCheckpoints p m =>
    exact .command h fun u => onBoundLane_after (.refl u) fun l => .unless rfl
  | guardConfig p m =>
    refine .command h fun u => onLane_after (.refl u) fun l => ?_
    split
    · exact .refl u
    · exact .unless rfl

/-- Settles O2: no row touches the queue of waiting commands. -/
theorem execKeepsWaitingCommands : Obligations.ExecKeepsWaitingCommands :=
  fun _ _ _ => exec_sameWaiting

end Sys2Proof.Machine
end
